-- ==== Sys2Proof/Word.lean ====
section
/-!
DEFINITION. The two word types of the machine (rules R12 to R14): the `u8` and the `u16`. All arithmetic on them is
modulo 256 and modulo 65536 (the spec's `+8`, `-8`, `+16`, `-16`).
-/

namespace Sys2Proof

/-- A `u8`: register contents, memory cells, opcode and operand bytes (R12, R14). -/
abbrev Byte := BitVec 8

/-- A `u16`: addresses and the program counter (R12, R14). -/
abbrev Addr := BitVec 16

end Sys2Proof
end

