-- ==== Sys2Proof/Machine/Bits.lean ====
section
/-!
DEFINITION. The bit-field, extension and byte-order helpers of rules R13 and R14.
-/

namespace Sys2Proof

/-- `zext_16(b)` (R14). -/
def zext16 (b : Byte) : Addr := b.setWidth 16

/-- `sext_16(b)` (R14): `b` if `b < 128`, else `b + 0xFF00`. -/
def sext16 (b : Byte) : Addr := if b.toNat < 128 then zext16 b else zext16 b + 0xFF00

/-- `w[7:0]` (R13). -/
def loByte (w : Addr) : Byte := w.setWidth 8

/-- `w[15:8]` (R13). -/
def hiByte (w : Addr) : Byte := (w >>> 8).setWidth 8

/-- `{h, l}`, the word `h * 256 + l` (R13). -/
def pair (h l : Byte) : Addr := zext16 h <<< 8 ||| zext16 l

/-- `v[7]` of a byte (R13). -/
def bit7 (v : Byte) : Bool := v.getLsbD 7

/-- `v[6]` of a byte (R13). -/
def bit6 (v : Byte) : Bool := v.getLsbD 6

/-- `v[0]` of a byte (R13). -/
def bit0 (v : Byte) : Bool := v.getLsbD 0

/-- A flag as the byte 0 or 1. -/
def flagByte (c : Bool) : Byte := if c then 1 else 0

end Sys2Proof
end

