-- ==== Sys2Proof/Config.lean ====
section
/-!
DEFINITION. The configuration record of rules R7, R8, R10 and R11. `PROGRAM_BASE` (R9) has no default and is an
argument of `loadAndRun` (Log 4). The one thing the machine leaves free is what the host does before each step with
`HOST = hook` (R258; `93_implementation_defined.md` U18): it is the opaque constant `Config.hostMove`.
-/

namespace Sys2Proof

/-- `PROFILE` (R7): which rows the OpCode Table holds. -/
inductive Profile where
  | core
  | extended
  deriving DecidableEq, Repr

/-- A machine of profile `p` has the rows of profile `q`: `EXTENDED` is `CORE` plus 71 bytes (R7). -/
def Profile.includes : Profile → Profile → Bool
  | .extended, _ => true
  | .core, .core => true
  | .core, .extended => false

/-- `LOGIC_DEST` (R8): the register into which AND, ORA and EOR write their result. -/
inductive LogicDest where
  | x
  | a
  deriving DecidableEq, Repr

/-- `HOST` (R11): whether an external agent moves before every step. -/
inductive HostMode where
  | none
  | hook
  deriving DecidableEq, Repr

/-- One move of the host before a step, with `HOST = hook` (R258): bytes it writes, in order, and whether it asks for a
halt. -/
structure HostMove where
  writes : List (Addr × Byte)
  halt : Bool
  deriving DecidableEq, Repr, Inhabited

/-- The host's free choice of its move (R258, U18; Log 8): an uninterpreted function of how many moves it has made and of
the whole machine, which the host may read. `σ` is the type of the machine's state. -/
opaque Config.hostMove {σ : Type} (turn : Nat) (machine : σ) : HostMove

/-- The configuration record (R7 to R11), fixed for a machine: no step changes it. -/
structure Config where
  profile : Profile
  logicDest : LogicDest
  statusReset : Byte
  host : HostMode
  hostWrites : List Addr
  deriving DecidableEq, Repr

/-- Every parameter at the default the spec gives it (R7, R8, R10, R11). -/
def Config.specDefault : Config where
  profile := .core
  logicDest := .x
  statusReset := 0x24
  host := .none
  hostWrites := [0x00FF]

/-- The configuration of `State.reset`: the spec's defaults with the opt-in profile `EXTENDED`, so that every row of
the opcode table runs. DESIGN CHOICE (Log 2); the other values are those of `Config.specDefault` (Log 3). -/
def Config.allRows : Config := { Config.specDefault with profile := .extended }

end Sys2Proof
end

