-- ==== Sys2Proof/Syntax.lean ====
section
/-!
DEFINITION. The syntax of the machine: the ten addressing modes (R88) and the 144 instructions, one constructor for each
row of `spec/opcode_table.json` (R101, R104). A constructor carries the operand bytes its format has (R81 to R83): none
(F1), the byte `b1` (F2), or the word `w = {b2, b1}` (F3).
-/

namespace Sys2Proof

/-- AddressingMode, the closed set of ten variants of R88. The operand forms of R110 (accumulator, relative, jump) carry
`noneAddressing` in the table. -/
inductive AddressingMode where
  | immediate
  | zeroPage
  | zeroPageX
  | zeroPageY
  | absolute
  | absoluteX
  | absoluteY
  | indirectX
  | indirectY
  | noneAddressing
  deriving DecidableEq, Repr

/-- The instructions: one constructor per row of the opcode table, family by family. The suffix names the mode: `Imm`,
`Zp`, `ZpX`, `ZpY`, `Abs`, `AbsX`, `AbsY`, `IndX`, `IndY`; `A` is the accumulator form of R110. -/
inductive Instr where
  /-- `0xA9`, LDA, Immediate (R120). -/
  | ldaImm (b1 : Byte)
  /-- `0xA5`, LDA, ZeroPage (R120). -/
  | ldaZp (b1 : Byte)
  /-- `0xB5`, LDA, ZeroPage_X (R120). -/
  | ldaZpX (b1 : Byte)
  /-- `0xAD`, LDA, Absolute (R120). -/
  | ldaAbs (w : Addr)
  /-- `0xBD`, LDA, Absolute_X (R120). -/
  | ldaAbsX (w : Addr)
  /-- `0xB9`, LDA, Absolute_Y (R120). -/
  | ldaAbsY (w : Addr)
  /-- `0xA1`, LDA, Indirect_X (R120). -/
  | ldaIndX (b1 : Byte)
  /-- `0xB1`, LDA, Indirect_Y (R120). -/
  | ldaIndY (b1 : Byte)
  /-- `0xA2`, LDX, Immediate (R121). -/
  | ldxImm (b1 : Byte)
  /-- `0xA6`, LDX, ZeroPage (R121). -/
  | ldxZp (b1 : Byte)
  /-- `0xB6`, LDX, ZeroPage_Y (R121). -/
  | ldxZpY (b1 : Byte)
  /-- `0xAE`, LDX, Absolute (R121). -/
  | ldxAbs (w : Addr)
  /-- `0xBE`, LDX, Absolute_Y (R121). -/
  | ldxAbsY (w : Addr)
  /-- `0xA0`, LDY, Immediate (R122). -/
  | ldyImm (b1 : Byte)
  /-- `0xA4`, LDY, ZeroPage (R122). -/
  | ldyZp (b1 : Byte)
  /-- `0xB4`, LDY, ZeroPage_X (R122). -/
  | ldyZpX (b1 : Byte)
  /-- `0xAC`, LDY, Absolute (R122). -/
  | ldyAbs (w : Addr)
  /-- `0xBC`, LDY, Absolute_X (R122). -/
  | ldyAbsX (w : Addr)
  /-- `0x85`, STA, ZeroPage (R130). -/
  | staZp (b1 : Byte)
  /-- `0x95`, STA, ZeroPage_X (R130). -/
  | staZpX (b1 : Byte)
  /-- `0x8D`, STA, Absolute (R130). -/
  | staAbs (w : Addr)
  /-- `0x9D`, STA, Absolute_X (R130). -/
  | staAbsX (w : Addr)
  /-- `0x99`, STA, Absolute_Y (R130). -/
  | staAbsY (w : Addr)
  /-- `0x81`, STA, Indirect_X (R130). -/
  | staIndX (b1 : Byte)
  /-- `0x91`, STA, Indirect_Y (R130). -/
  | staIndY (b1 : Byte)
  /-- `0x86`, STX, ZeroPage (R131). -/
  | stxZp (b1 : Byte)
  /-- `0x96`, STX, ZeroPage_Y (R131). -/
  | stxZpY (b1 : Byte)
  /-- `0x8E`, STX, Absolute (R131). -/
  | stxAbs (w : Addr)
  /-- `0x84`, STY, ZeroPage (R132). -/
  | styZp (b1 : Byte)
  /-- `0x94`, STY, ZeroPage_X (R132). -/
  | styZpX (b1 : Byte)
  /-- `0x8C`, STY, Absolute (R132). -/
  | styAbs (w : Addr)
  /-- `0x69`, ADC, Immediate (R140). -/
  | adcImm (b1 : Byte)
  /-- `0x65`, ADC, ZeroPage (R140). -/
  | adcZp (b1 : Byte)
  /-- `0x75`, ADC, ZeroPage_X (R140). -/
  | adcZpX (b1 : Byte)
  /-- `0x6D`, ADC, Absolute (R140). -/
  | adcAbs (w : Addr)
  /-- `0x7D`, ADC, Absolute_X (R140). -/
  | adcAbsX (w : Addr)
  /-- `0x79`, ADC, Absolute_Y (R140). -/
  | adcAbsY (w : Addr)
  /-- `0x61`, ADC, Indirect_X (R140). -/
  | adcIndX (b1 : Byte)
  /-- `0x71`, ADC, Indirect_Y (R140). -/
  | adcIndY (b1 : Byte)
  /-- `0xE9`, SBC, Immediate (R141). -/
  | sbcImm (b1 : Byte)
  /-- `0xE5`, SBC, ZeroPage (R141). -/
  | sbcZp (b1 : Byte)
  /-- `0xF5`, SBC, ZeroPage_X (R141). -/
  | sbcZpX (b1 : Byte)
  /-- `0xED`, SBC, Absolute (R141). -/
  | sbcAbs (w : Addr)
  /-- `0xFD`, SBC, Absolute_X (R141). -/
  | sbcAbsX (w : Addr)
  /-- `0xF9`, SBC, Absolute_Y (R141). -/
  | sbcAbsY (w : Addr)
  /-- `0xE1`, SBC, Indirect_X (R141). -/
  | sbcIndX (b1 : Byte)
  /-- `0xF1`, SBC, Indirect_Y (R141). -/
  | sbcIndY (b1 : Byte)
  /-- `0xE8`, INX, NoneAddressing (R143). -/
  | inx
  /-- `0xC8`, INY, NoneAddressing (R144). -/
  | iny
  /-- `0xCA`, DEX, NoneAddressing (R145). -/
  | dex
  /-- `0x88`, DEY, NoneAddressing (R146). -/
  | dey
  /-- `0xE6`, INC, ZeroPage (R147). -/
  | incZp (b1 : Byte)
  /-- `0xF6`, INC, ZeroPage_X (R147). -/
  | incZpX (b1 : Byte)
  /-- `0xEE`, INC, Absolute (R147). -/
  | incAbs (w : Addr)
  /-- `0xFE`, INC, Absolute_X (R147). -/
  | incAbsX (w : Addr)
  /-- `0xC6`, DEC, ZeroPage (R148). -/
  | decZp (b1 : Byte)
  /-- `0xD6`, DEC, ZeroPage_X (R148). -/
  | decZpX (b1 : Byte)
  /-- `0xCE`, DEC, Absolute (R148). -/
  | decAbs (w : Addr)
  /-- `0xDE`, DEC, Absolute_X (R148). -/
  | decAbsX (w : Addr)
  /-- `0xC9`, CMP, Immediate (R149). -/
  | cmpImm (b1 : Byte)
  /-- `0xC5`, CMP, ZeroPage (R149). -/
  | cmpZp (b1 : Byte)
  /-- `0xD5`, CMP, ZeroPage_X (R149). -/
  | cmpZpX (b1 : Byte)
  /-- `0xCD`, CMP, Absolute (R149). -/
  | cmpAbs (w : Addr)
  /-- `0xDD`, CMP, Absolute_X (R149). -/
  | cmpAbsX (w : Addr)
  /-- `0xD9`, CMP, Absolute_Y (R149). -/
  | cmpAbsY (w : Addr)
  /-- `0xC1`, CMP, Indirect_X (R149). -/
  | cmpIndX (b1 : Byte)
  /-- `0xD1`, CMP, Indirect_Y (R149). -/
  | cmpIndY (b1 : Byte)
  /-- `0xE0`, CPX, Immediate (R150). -/
  | cpxImm (b1 : Byte)
  /-- `0xE4`, CPX, ZeroPage (R150). -/
  | cpxZp (b1 : Byte)
  /-- `0xEC`, CPX, Absolute (R150). -/
  | cpxAbs (w : Addr)
  /-- `0xC0`, CPY, Immediate (R151). -/
  | cpyImm (b1 : Byte)
  /-- `0xC4`, CPY, ZeroPage (R151). -/
  | cpyZp (b1 : Byte)
  /-- `0xCC`, CPY, Absolute (R151). -/
  | cpyAbs (w : Addr)
  /-- `0x29`, AND, Immediate (R160). -/
  | andImm (b1 : Byte)
  /-- `0x25`, AND, ZeroPage (R160). -/
  | andZp (b1 : Byte)
  /-- `0x35`, AND, ZeroPage_X (R160). -/
  | andZpX (b1 : Byte)
  /-- `0x2D`, AND, Absolute (R160). -/
  | andAbs (w : Addr)
  /-- `0x3D`, AND, Absolute_X (R160). -/
  | andAbsX (w : Addr)
  /-- `0x39`, AND, Absolute_Y (R160). -/
  | andAbsY (w : Addr)
  /-- `0x21`, AND, Indirect_X (R160). -/
  | andIndX (b1 : Byte)
  /-- `0x31`, AND, Indirect_Y (R160). -/
  | andIndY (b1 : Byte)
  /-- `0x09`, ORA, Immediate (R161). -/
  | oraImm (b1 : Byte)
  /-- `0x05`, ORA, ZeroPage (R161). -/
  | oraZp (b1 : Byte)
  /-- `0x15`, ORA, ZeroPage_X (R161). -/
  | oraZpX (b1 : Byte)
  /-- `0x0D`, ORA, Absolute (R161). -/
  | oraAbs (w : Addr)
  /-- `0x1D`, ORA, Absolute_X (R161). -/
  | oraAbsX (w : Addr)
  /-- `0x19`, ORA, Absolute_Y (R161). -/
  | oraAbsY (w : Addr)
  /-- `0x01`, ORA, Indirect_X (R161). -/
  | oraIndX (b1 : Byte)
  /-- `0x11`, ORA, Indirect_Y (R161). -/
  | oraIndY (b1 : Byte)
  /-- `0x49`, EOR, Immediate (R162). -/
  | eorImm (b1 : Byte)
  /-- `0x45`, EOR, ZeroPage (R162). -/
  | eorZp (b1 : Byte)
  /-- `0x55`, EOR, ZeroPage_X (R162). -/
  | eorZpX (b1 : Byte)
  /-- `0x4D`, EOR, Absolute (R162). -/
  | eorAbs (w : Addr)
  /-- `0x5D`, EOR, Absolute_X (R162). -/
  | eorAbsX (w : Addr)
  /-- `0x59`, EOR, Absolute_Y (R162). -/
  | eorAbsY (w : Addr)
  /-- `0x41`, EOR, Indirect_X (R162). -/
  | eorIndX (b1 : Byte)
  /-- `0x51`, EOR, Indirect_Y (R162). -/
  | eorIndY (b1 : Byte)
  /-- `0x24`, BIT, ZeroPage (R164). -/
  | bitZp (b1 : Byte)
  /-- `0x2C`, BIT, Absolute (R164). -/
  | bitAbs (w : Addr)
  /-- `0x06`, ASL, ZeroPage (R170). -/
  | aslZp (b1 : Byte)
  /-- `0x16`, ASL, ZeroPage_X (R170). -/
  | aslZpX (b1 : Byte)
  /-- `0x0E`, ASL, Absolute (R170). -/
  | aslAbs (w : Addr)
  /-- `0x1E`, ASL, Absolute_X (R170). -/
  | aslAbsX (w : Addr)
  /-- `0x0A`, ASL_A, accumulator (R171). -/
  | aslA
  /-- `0x46`, LSR, ZeroPage (R172). -/
  | lsrZp (b1 : Byte)
  /-- `0x56`, LSR, ZeroPage_X (R172). -/
  | lsrZpX (b1 : Byte)
  /-- `0x4E`, LSR, Absolute (R172). -/
  | lsrAbs (w : Addr)
  /-- `0x5E`, LSR, Absolute_X (R172). -/
  | lsrAbsX (w : Addr)
  /-- `0x4A`, LSR_A, accumulator (R173). -/
  | lsrA
  /-- `0x26`, ROL, ZeroPage (R174). -/
  | rolZp (b1 : Byte)
  /-- `0x36`, ROL, ZeroPage_X (R174). -/
  | rolZpX (b1 : Byte)
  /-- `0x2E`, ROL, Absolute (R174). -/
  | rolAbs (w : Addr)
  /-- `0x3E`, ROL, Absolute_X (R174). -/
  | rolAbsX (w : Addr)
  /-- `0x2A`, ROL_A, accumulator (R175). -/
  | rolA
  /-- `0x66`, ROR, ZeroPage (R176). -/
  | rorZp (b1 : Byte)
  /-- `0x76`, ROR, ZeroPage_X (R176). -/
  | rorZpX (b1 : Byte)
  /-- `0x6E`, ROR, Absolute (R176). -/
  | rorAbs (w : Addr)
  /-- `0x7E`, ROR, Absolute_X (R176). -/
  | rorAbsX (w : Addr)
  /-- `0x6A`, ROR_A, accumulator (R177). -/
  | rorA
  /-- `0x00`, BRK, NoneAddressing (R185). -/
  | brk
  /-- `0x10`, BPL, relative (R187). -/
  | bpl (b1 : Byte)
  /-- `0x30`, BMI, relative (R188). -/
  | bmi (b1 : Byte)
  /-- `0x50`, BVC, relative (R189). -/
  | bvc (b1 : Byte)
  /-- `0x70`, BVS, relative (R190). -/
  | bvs (b1 : Byte)
  /-- `0x90`, BCC, relative (R191). -/
  | bcc (b1 : Byte)
  /-- `0xB0`, BCS, relative (R192). -/
  | bcs (b1 : Byte)
  /-- `0xD0`, BNE, relative (R193). -/
  | bne (b1 : Byte)
  /-- `0xF0`, BEQ, relative (R194). -/
  | beq (b1 : Byte)
  /-- `0x4C`, JMP, absolute jump (R195). -/
  | jmpAbs (w : Addr)
  /-- `0x6C`, JMP, indirect jump (R196). -/
  | jmpInd (w : Addr)
  /-- `0x20`, JSR, absolute jump (R197). -/
  | jsr (w : Addr)
  /-- `0x60`, RTS, NoneAddressing (R198). -/
  | rts
  /-- `0x48`, PHA, NoneAddressing (R209). -/
  | pha
  /-- `0x68`, PLA, NoneAddressing (R210). -/
  | pla
  /-- `0x9A`, TXS, NoneAddressing (R211). -/
  | txs
  /-- `0xBA`, TSX, NoneAddressing (R212). -/
  | tsx
  /-- `0xAA`, TAX, NoneAddressing (R220). -/
  | tax
  /-- `0xA8`, TAY, NoneAddressing (R221). -/
  | tay
  /-- `0x8A`, TXA, NoneAddressing (R222). -/
  | txa
  /-- `0x98`, TYA, NoneAddressing (R223). -/
  | tya
  /-- `0x18`, CLC, NoneAddressing (R230). -/
  | clc
  /-- `0x38`, SEC, NoneAddressing (R231). -/
  | sec
  /-- `0xB8`, CLV, NoneAddressing (R232). -/
  | clv
  /-- `0xEA`, NOP, NoneAddressing (R233). -/
  | nop
  deriving DecidableEq, Repr

/-- The mnemonic of the instruction's row, as the opcode table spells it. -/
def Instr.mnemonic : Instr → String
  | .ldaImm _ | .ldaZp _ | .ldaZpX _ | .ldaAbs _ | .ldaAbsX _ | .ldaAbsY _ | .ldaIndX _ | .ldaIndY _ => "LDA"
  | .ldxImm _ | .ldxZp _ | .ldxZpY _ | .ldxAbs _ | .ldxAbsY _ => "LDX"
  | .ldyImm _ | .ldyZp _ | .ldyZpX _ | .ldyAbs _ | .ldyAbsX _ => "LDY"
  | .staZp _ | .staZpX _ | .staAbs _ | .staAbsX _ | .staAbsY _ | .staIndX _ | .staIndY _ => "STA"
  | .stxZp _ | .stxZpY _ | .stxAbs _ => "STX"
  | .styZp _ | .styZpX _ | .styAbs _ => "STY"
  | .adcImm _ | .adcZp _ | .adcZpX _ | .adcAbs _ | .adcAbsX _ | .adcAbsY _ | .adcIndX _ | .adcIndY _ => "ADC"
  | .sbcImm _ | .sbcZp _ | .sbcZpX _ | .sbcAbs _ | .sbcAbsX _ | .sbcAbsY _ | .sbcIndX _ | .sbcIndY _ => "SBC"
  | .inx => "INX"
  | .iny => "INY"
  | .dex => "DEX"
  | .dey => "DEY"
  | .incZp _ | .incZpX _ | .incAbs _ | .incAbsX _ => "INC"
  | .decZp _ | .decZpX _ | .decAbs _ | .decAbsX _ => "DEC"
  | .cmpImm _ | .cmpZp _ | .cmpZpX _ | .cmpAbs _ | .cmpAbsX _ | .cmpAbsY _ | .cmpIndX _ | .cmpIndY _ => "CMP"
  | .cpxImm _ | .cpxZp _ | .cpxAbs _ => "CPX"
  | .cpyImm _ | .cpyZp _ | .cpyAbs _ => "CPY"
  | .andImm _ | .andZp _ | .andZpX _ | .andAbs _ | .andAbsX _ | .andAbsY _ | .andIndX _ | .andIndY _ => "AND"
  | .oraImm _ | .oraZp _ | .oraZpX _ | .oraAbs _ | .oraAbsX _ | .oraAbsY _ | .oraIndX _ | .oraIndY _ => "ORA"
  | .eorImm _ | .eorZp _ | .eorZpX _ | .eorAbs _ | .eorAbsX _ | .eorAbsY _ | .eorIndX _ | .eorIndY _ => "EOR"
  | .bitZp _ | .bitAbs _ => "BIT"
  | .aslZp _ | .aslZpX _ | .aslAbs _ | .aslAbsX _ => "ASL"
  | .aslA => "ASL_A"
  | .lsrZp _ | .lsrZpX _ | .lsrAbs _ | .lsrAbsX _ => "LSR"
  | .lsrA => "LSR_A"
  | .rolZp _ | .rolZpX _ | .rolAbs _ | .rolAbsX _ => "ROL"
  | .rolA => "ROL_A"
  | .rorZp _ | .rorZpX _ | .rorAbs _ | .rorAbsX _ => "ROR"
  | .rorA => "ROR_A"
  | .brk => "BRK"
  | .bpl _ => "BPL"
  | .bmi _ => "BMI"
  | .bvc _ => "BVC"
  | .bvs _ => "BVS"
  | .bcc _ => "BCC"
  | .bcs _ => "BCS"
  | .bne _ => "BNE"
  | .beq _ => "BEQ"
  | .jmpAbs _ | .jmpInd _ => "JMP"
  | .jsr _ => "JSR"
  | .rts => "RTS"
  | .pha => "PHA"
  | .pla => "PLA"
  | .txs => "TXS"
  | .tsx => "TSX"
  | .tax => "TAX"
  | .tay => "TAY"
  | .txa => "TXA"
  | .tya => "TYA"
  | .clc => "CLC"
  | .sec => "SEC"
  | .clv => "CLV"
  | .nop => "NOP"

/-- The addressing mode of the instruction's row (R101, R104). -/
def Instr.mode : Instr → AddressingMode
  | .ldaImm _ | .ldxImm _ | .ldyImm _ | .adcImm _ | .sbcImm _ | .cmpImm _ | .cpxImm _ | .cpyImm _
  | .andImm _ | .oraImm _ | .eorImm _ => .immediate
  | .ldaZp _ | .ldxZp _ | .ldyZp _ | .staZp _ | .stxZp _ | .styZp _ | .adcZp _ | .sbcZp _
  | .incZp _ | .decZp _ | .cmpZp _ | .cpxZp _ | .cpyZp _ | .andZp _ | .oraZp _ | .eorZp _
  | .bitZp _ | .aslZp _ | .lsrZp _ | .rolZp _ | .rorZp _ => .zeroPage
  | .ldaZpX _ | .ldyZpX _ | .staZpX _ | .styZpX _ | .adcZpX _ | .sbcZpX _ | .incZpX _ | .decZpX _
  | .cmpZpX _ | .andZpX _ | .oraZpX _ | .eorZpX _ | .aslZpX _ | .lsrZpX _ | .rolZpX _ | .rorZpX _ => .zeroPageX
  | .ldxZpY _ | .stxZpY _ => .zeroPageY
  | .ldaAbs _ | .ldxAbs _ | .ldyAbs _ | .staAbs _ | .stxAbs _ | .styAbs _ | .adcAbs _ | .sbcAbs _
  | .incAbs _ | .decAbs _ | .cmpAbs _ | .cpxAbs _ | .cpyAbs _ | .andAbs _ | .oraAbs _ | .eorAbs _
  | .bitAbs _ | .aslAbs _ | .lsrAbs _ | .rolAbs _ | .rorAbs _ => .absolute
  | .ldaAbsX _ | .ldyAbsX _ | .staAbsX _ | .adcAbsX _ | .sbcAbsX _ | .incAbsX _ | .decAbsX _
  | .cmpAbsX _ | .andAbsX _ | .oraAbsX _ | .eorAbsX _ | .aslAbsX _ | .lsrAbsX _ | .rolAbsX _
  | .rorAbsX _ => .absoluteX
  | .ldaAbsY _ | .ldxAbsY _ | .staAbsY _ | .adcAbsY _ | .sbcAbsY _ | .cmpAbsY _ | .andAbsY _
  | .oraAbsY _ | .eorAbsY _ => .absoluteY
  | .ldaIndX _ | .staIndX _ | .adcIndX _ | .sbcIndX _ | .cmpIndX _ | .andIndX _ | .oraIndX _
  | .eorIndX _ => .indirectX
  | .ldaIndY _ | .staIndY _ | .adcIndY _ | .sbcIndY _ | .cmpIndY _ | .andIndY _ | .oraIndY _
  | .eorIndY _ => .indirectY
  | .inx | .iny | .dex | .dey | .aslA | .lsrA | .rolA | .rorA | .brk | .bpl _ | .bmi _ | .bvc _
  | .bvs _ | .bcc _ | .bcs _ | .bne _ | .beq _ | .jmpAbs _ | .jmpInd _ | .jsr _ | .rts | .pha
  | .pla | .txs | .tsx | .tax | .tay | .txa | .tya | .clc | .sec | .clv | .nop => .noneAddressing

end Sys2Proof
end

