-- ==== Sys2Proof/WellFormed.lean ====
section
/-!
DEFINITION. Well-formedness. The operand bytes of an instruction are bit vectors of their width, so what is left to check
is that the machine's profile has the instruction's row (R7, R101, R104, R112).
-/

namespace Sys2Proof

/-- The profile whose map lists the instruction: R101 for `CORE`, R104 for what `EXTENDED` adds. -/
def Instr.profile : Instr → Profile
  | .ldaImm _ | .ldaZp _ | .ldaZpX _ | .ldaAbs _ | .ldaAbsX _ | .ldaAbsY _ | .ldaIndX _ | .ldaIndY _ | .ldxImm _
  | .ldxZp _ | .ldxZpY _ | .ldxAbs _ | .ldxAbsY _ | .ldyImm _ | .ldyZp _ | .ldyZpX _ | .ldyAbs _ | .ldyAbsX _
  | .staZp _ | .staZpX _ | .staAbs _ | .staAbsX _ | .staAbsY _ | .staIndX _ | .staIndY _ | .adcImm _ | .adcZp _
  | .adcZpX _ | .adcAbs _ | .adcAbsX _ | .adcAbsY _ | .adcIndX _ | .adcIndY _ | .sbcImm _ | .sbcZp _ | .sbcZpX _
  | .sbcAbs _ | .sbcAbsX _ | .sbcAbsY _ | .sbcIndX _ | .sbcIndY _ | .inx | .iny | .andImm _ | .andZp _ | .andZpX _
  | .andAbs _ | .andAbsX _ | .andAbsY _ | .andIndX _ | .andIndY _ | .oraImm _ | .oraZp _ | .oraZpX _ | .oraAbs _
  | .oraAbsX _ | .oraAbsY _ | .oraIndX _ | .oraIndY _ | .eorImm _ | .eorZp _ | .eorZpX _ | .eorAbs _ | .eorAbsX _
  | .eorAbsY _ | .eorIndX _ | .eorIndY _ | .aslZp _ | .aslZpX _ | .aslAbs _ | .aslAbsX _ | .brk | .tax => .core
  | .stxZp _ | .stxZpY _ | .stxAbs _ | .styZp _ | .styZpX _ | .styAbs _ | .dex | .dey | .incZp _ | .incZpX _
  | .incAbs _ | .incAbsX _ | .decZp _ | .decZpX _ | .decAbs _ | .decAbsX _ | .cmpImm _ | .cmpZp _ | .cmpZpX _
  | .cmpAbs _ | .cmpAbsX _ | .cmpAbsY _ | .cmpIndX _ | .cmpIndY _ | .cpxImm _ | .cpxZp _ | .cpxAbs _ | .cpyImm _
  | .cpyZp _ | .cpyAbs _ | .bitZp _ | .bitAbs _ | .aslA | .lsrZp _ | .lsrZpX _ | .lsrAbs _ | .lsrAbsX _ | .lsrA
  | .rolZp _ | .rolZpX _ | .rolAbs _ | .rolAbsX _ | .rolA | .rorZp _ | .rorZpX _ | .rorAbs _ | .rorAbsX _ | .rorA
  | .bpl _ | .bmi _ | .bvc _ | .bvs _ | .bcc _ | .bcs _ | .bne _ | .beq _ | .jmpAbs _ | .jmpInd _ | .jsr _ | .rts
  | .pha | .pla | .txs | .tsx | .tay | .txa | .tya | .clc | .sec | .clv | .nop => .extended

/-- The instruction has an encoding in the table of profile `p`. -/
def WellFormed (p : Profile) (i : Instr) : Bool := p.includes i.profile

end Sys2Proof
end

