-- ==== Sys2Proof/Decode.lean ====
section
/-!
DEFINITION. The OpCode Table (R80, R84, R101, R104), the decoder and the encoder. Decoding is one look-up by the opcode
byte (R85); it is total on any bytes and rejects by name. The encoder is written from the same encodings (R81 to R83,
R101, R104), row by row, apart from the table.
-/

namespace Sys2Proof

/-- How a row's operand bytes make the instruction: formats F1, F2 and F3 of R81 to R83. -/
inductive Format where
  | f1 (i : Instr)
  | f2 (build : Byte → Instr)
  | f3 (build : Addr → Instr)

/-- An OpCode record (R80, R118). `cycles` is a constant that no rule reads (R118, R286). -/
structure OpCode where
  code : Byte
  mnemonic : String
  cycles : Nat
  mode : AddressingMode
  profile : Profile
  format : Format

/-- The instruction's length in bytes (R80 to R83). -/
def OpCode.length (r : OpCode) : Nat :=
  match r.format with
  | .f1 _ => 1
  | .f2 _ => 2
  | .f3 _ => 3

/-- `operand_length = length - 1` (R18, R80). -/
def OpCode.operandLength (r : OpCode) : Nat := r.length - 1

/-- The instruction a row and its two following bytes stand for; the word of F3 is `{b2, b1}` (R83). -/
def OpCode.instr (r : OpCode) (b1 b2 : Byte) : Instr :=
  match r.format with
  | .f1 i => i
  | .f2 build => build b1
  | .f3 build => build (pair b2 b1)

/-- The rows of LDA, LDX, LDY. -/
def rowsLoad : List OpCode := [
  ⟨0xA9, "LDA", 2, .immediate, .core, .f2 .ldaImm⟩,
  ⟨0xA5, "LDA", 3, .zeroPage, .core, .f2 .ldaZp⟩,
  ⟨0xB5, "LDA", 4, .zeroPageX, .core, .f2 .ldaZpX⟩,
  ⟨0xAD, "LDA", 4, .absolute, .core, .f3 .ldaAbs⟩,
  ⟨0xBD, "LDA", 4, .absoluteX, .core, .f3 .ldaAbsX⟩,
  ⟨0xB9, "LDA", 4, .absoluteY, .core, .f3 .ldaAbsY⟩,
  ⟨0xA1, "LDA", 6, .indirectX, .core, .f2 .ldaIndX⟩,
  ⟨0xB1, "LDA", 5, .indirectY, .core, .f2 .ldaIndY⟩,
  ⟨0xA2, "LDX", 2, .immediate, .core, .f2 .ldxImm⟩,
  ⟨0xA6, "LDX", 3, .zeroPage, .core, .f2 .ldxZp⟩,
  ⟨0xB6, "LDX", 4, .zeroPageY, .core, .f2 .ldxZpY⟩,
  ⟨0xAE, "LDX", 4, .absolute, .core, .f3 .ldxAbs⟩,
  ⟨0xBE, "LDX", 4, .absoluteY, .core, .f3 .ldxAbsY⟩,
  ⟨0xA0, "LDY", 2, .immediate, .core, .f2 .ldyImm⟩,
  ⟨0xA4, "LDY", 3, .zeroPage, .core, .f2 .ldyZp⟩,
  ⟨0xB4, "LDY", 4, .zeroPageX, .core, .f2 .ldyZpX⟩,
  ⟨0xAC, "LDY", 4, .absolute, .core, .f3 .ldyAbs⟩,
  ⟨0xBC, "LDY", 4, .absoluteX, .core, .f3 .ldyAbsX⟩]

/-- The rows of STA, STX, STY. -/
def rowsStore : List OpCode := [
  ⟨0x85, "STA", 3, .zeroPage, .core, .f2 .staZp⟩,
  ⟨0x95, "STA", 4, .zeroPageX, .core, .f2 .staZpX⟩,
  ⟨0x8D, "STA", 4, .absolute, .core, .f3 .staAbs⟩,
  ⟨0x9D, "STA", 5, .absoluteX, .core, .f3 .staAbsX⟩,
  ⟨0x99, "STA", 5, .absoluteY, .core, .f3 .staAbsY⟩,
  ⟨0x81, "STA", 6, .indirectX, .core, .f2 .staIndX⟩,
  ⟨0x91, "STA", 6, .indirectY, .core, .f2 .staIndY⟩,
  ⟨0x86, "STX", 3, .zeroPage, .extended, .f2 .stxZp⟩,
  ⟨0x96, "STX", 4, .zeroPageY, .extended, .f2 .stxZpY⟩,
  ⟨0x8E, "STX", 4, .absolute, .extended, .f3 .stxAbs⟩,
  ⟨0x84, "STY", 3, .zeroPage, .extended, .f2 .styZp⟩,
  ⟨0x94, "STY", 4, .zeroPageX, .extended, .f2 .styZpX⟩,
  ⟨0x8C, "STY", 4, .absolute, .extended, .f3 .styAbs⟩]

/-- The rows of ADC, SBC, INX, INY, DEX, DEY, INC. -/
def rowsArithmetic1 : List OpCode := [
  ⟨0x69, "ADC", 2, .immediate, .core, .f2 .adcImm⟩,
  ⟨0x65, "ADC", 3, .zeroPage, .core, .f2 .adcZp⟩,
  ⟨0x75, "ADC", 4, .zeroPageX, .core, .f2 .adcZpX⟩,
  ⟨0x6D, "ADC", 4, .absolute, .core, .f3 .adcAbs⟩,
  ⟨0x7D, "ADC", 4, .absoluteX, .core, .f3 .adcAbsX⟩,
  ⟨0x79, "ADC", 4, .absoluteY, .core, .f3 .adcAbsY⟩,
  ⟨0x61, "ADC", 6, .indirectX, .core, .f2 .adcIndX⟩,
  ⟨0x71, "ADC", 5, .indirectY, .core, .f2 .adcIndY⟩,
  ⟨0xE9, "SBC", 2, .immediate, .core, .f2 .sbcImm⟩,
  ⟨0xE5, "SBC", 3, .zeroPage, .core, .f2 .sbcZp⟩,
  ⟨0xF5, "SBC", 4, .zeroPageX, .core, .f2 .sbcZpX⟩,
  ⟨0xED, "SBC", 4, .absolute, .core, .f3 .sbcAbs⟩,
  ⟨0xFD, "SBC", 4, .absoluteX, .core, .f3 .sbcAbsX⟩,
  ⟨0xF9, "SBC", 4, .absoluteY, .core, .f3 .sbcAbsY⟩,
  ⟨0xE1, "SBC", 6, .indirectX, .core, .f2 .sbcIndX⟩,
  ⟨0xF1, "SBC", 5, .indirectY, .core, .f2 .sbcIndY⟩,
  ⟨0xE8, "INX", 2, .noneAddressing, .core, .f1 .inx⟩,
  ⟨0xC8, "INY", 2, .noneAddressing, .core, .f1 .iny⟩,
  ⟨0xCA, "DEX", 2, .noneAddressing, .extended, .f1 .dex⟩,
  ⟨0x88, "DEY", 2, .noneAddressing, .extended, .f1 .dey⟩,
  ⟨0xE6, "INC", 5, .zeroPage, .extended, .f2 .incZp⟩,
  ⟨0xF6, "INC", 6, .zeroPageX, .extended, .f2 .incZpX⟩,
  ⟨0xEE, "INC", 6, .absolute, .extended, .f3 .incAbs⟩,
  ⟨0xFE, "INC", 7, .absoluteX, .extended, .f3 .incAbsX⟩]

/-- The rows of DEC, CMP, CPX, CPY. -/
def rowsArithmetic2 : List OpCode := [
  ⟨0xC6, "DEC", 5, .zeroPage, .extended, .f2 .decZp⟩,
  ⟨0xD6, "DEC", 6, .zeroPageX, .extended, .f2 .decZpX⟩,
  ⟨0xCE, "DEC", 6, .absolute, .extended, .f3 .decAbs⟩,
  ⟨0xDE, "DEC", 7, .absoluteX, .extended, .f3 .decAbsX⟩,
  ⟨0xC9, "CMP", 2, .immediate, .extended, .f2 .cmpImm⟩,
  ⟨0xC5, "CMP", 3, .zeroPage, .extended, .f2 .cmpZp⟩,
  ⟨0xD5, "CMP", 4, .zeroPageX, .extended, .f2 .cmpZpX⟩,
  ⟨0xCD, "CMP", 4, .absolute, .extended, .f3 .cmpAbs⟩,
  ⟨0xDD, "CMP", 4, .absoluteX, .extended, .f3 .cmpAbsX⟩,
  ⟨0xD9, "CMP", 4, .absoluteY, .extended, .f3 .cmpAbsY⟩,
  ⟨0xC1, "CMP", 6, .indirectX, .extended, .f2 .cmpIndX⟩,
  ⟨0xD1, "CMP", 5, .indirectY, .extended, .f2 .cmpIndY⟩,
  ⟨0xE0, "CPX", 2, .immediate, .extended, .f2 .cpxImm⟩,
  ⟨0xE4, "CPX", 3, .zeroPage, .extended, .f2 .cpxZp⟩,
  ⟨0xEC, "CPX", 4, .absolute, .extended, .f3 .cpxAbs⟩,
  ⟨0xC0, "CPY", 2, .immediate, .extended, .f2 .cpyImm⟩,
  ⟨0xC4, "CPY", 3, .zeroPage, .extended, .f2 .cpyZp⟩,
  ⟨0xCC, "CPY", 4, .absolute, .extended, .f3 .cpyAbs⟩]

/-- The rows of AND, ORA, EOR. -/
def rowsLogical1 : List OpCode := [
  ⟨0x29, "AND", 2, .immediate, .core, .f2 .andImm⟩,
  ⟨0x25, "AND", 3, .zeroPage, .core, .f2 .andZp⟩,
  ⟨0x35, "AND", 4, .zeroPageX, .core, .f2 .andZpX⟩,
  ⟨0x2D, "AND", 4, .absolute, .core, .f3 .andAbs⟩,
  ⟨0x3D, "AND", 4, .absoluteX, .core, .f3 .andAbsX⟩,
  ⟨0x39, "AND", 4, .absoluteY, .core, .f3 .andAbsY⟩,
  ⟨0x21, "AND", 6, .indirectX, .core, .f2 .andIndX⟩,
  ⟨0x31, "AND", 5, .indirectY, .core, .f2 .andIndY⟩,
  ⟨0x09, "ORA", 2, .immediate, .core, .f2 .oraImm⟩,
  ⟨0x05, "ORA", 3, .zeroPage, .core, .f2 .oraZp⟩,
  ⟨0x15, "ORA", 4, .zeroPageX, .core, .f2 .oraZpX⟩,
  ⟨0x0D, "ORA", 4, .absolute, .core, .f3 .oraAbs⟩,
  ⟨0x1D, "ORA", 4, .absoluteX, .core, .f3 .oraAbsX⟩,
  ⟨0x19, "ORA", 4, .absoluteY, .core, .f3 .oraAbsY⟩,
  ⟨0x01, "ORA", 6, .indirectX, .core, .f2 .oraIndX⟩,
  ⟨0x11, "ORA", 5, .indirectY, .core, .f2 .oraIndY⟩,
  ⟨0x49, "EOR", 2, .immediate, .core, .f2 .eorImm⟩,
  ⟨0x45, "EOR", 3, .zeroPage, .core, .f2 .eorZp⟩,
  ⟨0x55, "EOR", 4, .zeroPageX, .core, .f2 .eorZpX⟩,
  ⟨0x4D, "EOR", 4, .absolute, .core, .f3 .eorAbs⟩,
  ⟨0x5D, "EOR", 4, .absoluteX, .core, .f3 .eorAbsX⟩,
  ⟨0x59, "EOR", 4, .absoluteY, .core, .f3 .eorAbsY⟩,
  ⟨0x41, "EOR", 6, .indirectX, .core, .f2 .eorIndX⟩,
  ⟨0x51, "EOR", 5, .indirectY, .core, .f2 .eorIndY⟩]

/-- The rows of BIT. -/
def rowsLogical2 : List OpCode := [
  ⟨0x24, "BIT", 3, .zeroPage, .extended, .f2 .bitZp⟩,
  ⟨0x2C, "BIT", 4, .absolute, .extended, .f3 .bitAbs⟩]

/-- The rows of ASL, ASL_A, LSR, LSR_A, ROL, ROL_A, ROR, ROR_A. -/
def rowsShift : List OpCode := [
  ⟨0x06, "ASL", 5, .zeroPage, .core, .f2 .aslZp⟩,
  ⟨0x16, "ASL", 6, .zeroPageX, .core, .f2 .aslZpX⟩,
  ⟨0x0E, "ASL", 6, .absolute, .core, .f3 .aslAbs⟩,
  ⟨0x1E, "ASL", 7, .absoluteX, .core, .f3 .aslAbsX⟩,
  ⟨0x0A, "ASL_A", 2, .noneAddressing, .extended, .f1 .aslA⟩,
  ⟨0x46, "LSR", 5, .zeroPage, .extended, .f2 .lsrZp⟩,
  ⟨0x56, "LSR", 6, .zeroPageX, .extended, .f2 .lsrZpX⟩,
  ⟨0x4E, "LSR", 6, .absolute, .extended, .f3 .lsrAbs⟩,
  ⟨0x5E, "LSR", 7, .absoluteX, .extended, .f3 .lsrAbsX⟩,
  ⟨0x4A, "LSR_A", 2, .noneAddressing, .extended, .f1 .lsrA⟩,
  ⟨0x26, "ROL", 5, .zeroPage, .extended, .f2 .rolZp⟩,
  ⟨0x36, "ROL", 6, .zeroPageX, .extended, .f2 .rolZpX⟩,
  ⟨0x2E, "ROL", 6, .absolute, .extended, .f3 .rolAbs⟩,
  ⟨0x3E, "ROL", 7, .absoluteX, .extended, .f3 .rolAbsX⟩,
  ⟨0x2A, "ROL_A", 2, .noneAddressing, .extended, .f1 .rolA⟩,
  ⟨0x66, "ROR", 5, .zeroPage, .extended, .f2 .rorZp⟩,
  ⟨0x76, "ROR", 6, .zeroPageX, .extended, .f2 .rorZpX⟩,
  ⟨0x6E, "ROR", 6, .absolute, .extended, .f3 .rorAbs⟩,
  ⟨0x7E, "ROR", 7, .absoluteX, .extended, .f3 .rorAbsX⟩,
  ⟨0x6A, "ROR_A", 2, .noneAddressing, .extended, .f1 .rorA⟩]

/-- The rows of BRK, BPL, BMI, BVC, BVS, BCC, BCS, BNE, BEQ, JMP, JSR, RTS. -/
def rowsControl : List OpCode := [
  ⟨0x00, "BRK", 7, .noneAddressing, .core, .f1 .brk⟩,
  ⟨0x10, "BPL", 2, .noneAddressing, .extended, .f2 .bpl⟩,
  ⟨0x30, "BMI", 2, .noneAddressing, .extended, .f2 .bmi⟩,
  ⟨0x50, "BVC", 2, .noneAddressing, .extended, .f2 .bvc⟩,
  ⟨0x70, "BVS", 2, .noneAddressing, .extended, .f2 .bvs⟩,
  ⟨0x90, "BCC", 2, .noneAddressing, .extended, .f2 .bcc⟩,
  ⟨0xB0, "BCS", 2, .noneAddressing, .extended, .f2 .bcs⟩,
  ⟨0xD0, "BNE", 2, .noneAddressing, .extended, .f2 .bne⟩,
  ⟨0xF0, "BEQ", 2, .noneAddressing, .extended, .f2 .beq⟩,
  ⟨0x4C, "JMP", 3, .noneAddressing, .extended, .f3 .jmpAbs⟩,
  ⟨0x6C, "JMP", 5, .noneAddressing, .extended, .f3 .jmpInd⟩,
  ⟨0x20, "JSR", 6, .noneAddressing, .extended, .f3 .jsr⟩,
  ⟨0x60, "RTS", 6, .noneAddressing, .extended, .f1 .rts⟩]

/-- The rows of PHA, PLA, TXS, TSX. -/
def rowsStack : List OpCode := [
  ⟨0x48, "PHA", 3, .noneAddressing, .extended, .f1 .pha⟩,
  ⟨0x68, "PLA", 4, .noneAddressing, .extended, .f1 .pla⟩,
  ⟨0x9A, "TXS", 2, .noneAddressing, .extended, .f1 .txs⟩,
  ⟨0xBA, "TSX", 2, .noneAddressing, .extended, .f1 .tsx⟩]

/-- The rows of TAX, TAY, TXA, TYA. -/
def rowsTransfer : List OpCode := [
  ⟨0xAA, "TAX", 2, .noneAddressing, .core, .f1 .tax⟩,
  ⟨0xA8, "TAY", 2, .noneAddressing, .extended, .f1 .tay⟩,
  ⟨0x8A, "TXA", 2, .noneAddressing, .extended, .f1 .txa⟩,
  ⟨0x98, "TYA", 2, .noneAddressing, .extended, .f1 .tya⟩]

/-- The rows of CLC, SEC, CLV, NOP. -/
def rowsFlagNop : List OpCode := [
  ⟨0x18, "CLC", 2, .noneAddressing, .extended, .f1 .clc⟩,
  ⟨0x38, "SEC", 2, .noneAddressing, .extended, .f1 .sec⟩,
  ⟨0xB8, "CLV", 2, .noneAddressing, .extended, .f1 .clv⟩,
  ⟨0xEA, "NOP", 2, .noneAddressing, .extended, .f1 .nop⟩]

/-- The OpCode Table under `EXTENDED`: 144 rows (R84, R101, R104). -/
def opcodeTable : List OpCode :=
  rowsLoad ++ rowsStore ++ rowsArithmetic1 ++ rowsArithmetic2 ++ rowsLogical1 ++ rowsLogical2 ++ rowsShift ++
  rowsControl ++ rowsStack ++ rowsTransfer ++ rowsFlagNop

/-- `OpCodeTable[opcode]` in the active profile; `none` is the spec's `absent` (R84, R85, R112). -/
def lookup (p : Profile) (code : Byte) : Option OpCode :=
  opcodeTable.find? fun r => r.code == code && p.includes r.profile

/-- Why bytes do not decode. Raised by `decode` alone; safe, since nothing runs. -/
inductive DecodeError where
  /-- There is no byte to read an opcode from. -/
  | noBytes
  /-- The opcode byte has no row in the active profile's table (R112). -/
  | unrecognizedOpcode (code : Byte)
  /-- The row's operand bytes are not all there. -/
  | truncated (code : Byte)
  deriving DecidableEq, Repr

/-- The instruction at the head of a byte sequence and the bytes after it (R80, R85, R115). -/
def decode (p : Profile) : List Byte → Except DecodeError (Instr × List Byte)
  | [] => .error .noBytes
  | code :: rest =>
    match lookup p code with
    | none => .error (.unrecognizedOpcode code)
    | some r =>
      match r.format, rest with
      | .f1 i, rest => .ok (i, rest)
      | .f2 build, b1 :: rest => .ok (build b1, rest)
      | .f3 build, b1 :: b2 :: rest => .ok (build (pair b2 b1), rest)
      | _, _ => .error (.truncated code)

/-- The bytes of an instruction at ascending addresses (R81 to R83 with the bytes of R101 and R104). -/
def encode : Instr → List Byte
  | .ldaImm b1 => [0xA9, b1]
  | .ldaZp b1 => [0xA5, b1]
  | .ldaZpX b1 => [0xB5, b1]
  | .ldaAbs w => [0xAD, loByte w, hiByte w]
  | .ldaAbsX w => [0xBD, loByte w, hiByte w]
  | .ldaAbsY w => [0xB9, loByte w, hiByte w]
  | .ldaIndX b1 => [0xA1, b1]
  | .ldaIndY b1 => [0xB1, b1]
  | .ldxImm b1 => [0xA2, b1]
  | .ldxZp b1 => [0xA6, b1]
  | .ldxZpY b1 => [0xB6, b1]
  | .ldxAbs w => [0xAE, loByte w, hiByte w]
  | .ldxAbsY w => [0xBE, loByte w, hiByte w]
  | .ldyImm b1 => [0xA0, b1]
  | .ldyZp b1 => [0xA4, b1]
  | .ldyZpX b1 => [0xB4, b1]
  | .ldyAbs w => [0xAC, loByte w, hiByte w]
  | .ldyAbsX w => [0xBC, loByte w, hiByte w]
  | .staZp b1 => [0x85, b1]
  | .staZpX b1 => [0x95, b1]
  | .staAbs w => [0x8D, loByte w, hiByte w]
  | .staAbsX w => [0x9D, loByte w, hiByte w]
  | .staAbsY w => [0x99, loByte w, hiByte w]
  | .staIndX b1 => [0x81, b1]
  | .staIndY b1 => [0x91, b1]
  | .stxZp b1 => [0x86, b1]
  | .stxZpY b1 => [0x96, b1]
  | .stxAbs w => [0x8E, loByte w, hiByte w]
  | .styZp b1 => [0x84, b1]
  | .styZpX b1 => [0x94, b1]
  | .styAbs w => [0x8C, loByte w, hiByte w]
  | .adcImm b1 => [0x69, b1]
  | .adcZp b1 => [0x65, b1]
  | .adcZpX b1 => [0x75, b1]
  | .adcAbs w => [0x6D, loByte w, hiByte w]
  | .adcAbsX w => [0x7D, loByte w, hiByte w]
  | .adcAbsY w => [0x79, loByte w, hiByte w]
  | .adcIndX b1 => [0x61, b1]
  | .adcIndY b1 => [0x71, b1]
  | .sbcImm b1 => [0xE9, b1]
  | .sbcZp b1 => [0xE5, b1]
  | .sbcZpX b1 => [0xF5, b1]
  | .sbcAbs w => [0xED, loByte w, hiByte w]
  | .sbcAbsX w => [0xFD, loByte w, hiByte w]
  | .sbcAbsY w => [0xF9, loByte w, hiByte w]
  | .sbcIndX b1 => [0xE1, b1]
  | .sbcIndY b1 => [0xF1, b1]
  | .inx => [0xE8]
  | .iny => [0xC8]
  | .dex => [0xCA]
  | .dey => [0x88]
  | .incZp b1 => [0xE6, b1]
  | .incZpX b1 => [0xF6, b1]
  | .incAbs w => [0xEE, loByte w, hiByte w]
  | .incAbsX w => [0xFE, loByte w, hiByte w]
  | .decZp b1 => [0xC6, b1]
  | .decZpX b1 => [0xD6, b1]
  | .decAbs w => [0xCE, loByte w, hiByte w]
  | .decAbsX w => [0xDE, loByte w, hiByte w]
  | .cmpImm b1 => [0xC9, b1]
  | .cmpZp b1 => [0xC5, b1]
  | .cmpZpX b1 => [0xD5, b1]
  | .cmpAbs w => [0xCD, loByte w, hiByte w]
  | .cmpAbsX w => [0xDD, loByte w, hiByte w]
  | .cmpAbsY w => [0xD9, loByte w, hiByte w]
  | .cmpIndX b1 => [0xC1, b1]
  | .cmpIndY b1 => [0xD1, b1]
  | .cpxImm b1 => [0xE0, b1]
  | .cpxZp b1 => [0xE4, b1]
  | .cpxAbs w => [0xEC, loByte w, hiByte w]
  | .cpyImm b1 => [0xC0, b1]
  | .cpyZp b1 => [0xC4, b1]
  | .cpyAbs w => [0xCC, loByte w, hiByte w]
  | .andImm b1 => [0x29, b1]
  | .andZp b1 => [0x25, b1]
  | .andZpX b1 => [0x35, b1]
  | .andAbs w => [0x2D, loByte w, hiByte w]
  | .andAbsX w => [0x3D, loByte w, hiByte w]
  | .andAbsY w => [0x39, loByte w, hiByte w]
  | .andIndX b1 => [0x21, b1]
  | .andIndY b1 => [0x31, b1]
  | .oraImm b1 => [0x09, b1]
  | .oraZp b1 => [0x05, b1]
  | .oraZpX b1 => [0x15, b1]
  | .oraAbs w => [0x0D, loByte w, hiByte w]
  | .oraAbsX w => [0x1D, loByte w, hiByte w]
  | .oraAbsY w => [0x19, loByte w, hiByte w]
  | .oraIndX b1 => [0x01, b1]
  | .oraIndY b1 => [0x11, b1]
  | .eorImm b1 => [0x49, b1]
  | .eorZp b1 => [0x45, b1]
  | .eorZpX b1 => [0x55, b1]
  | .eorAbs w => [0x4D, loByte w, hiByte w]
  | .eorAbsX w => [0x5D, loByte w, hiByte w]
  | .eorAbsY w => [0x59, loByte w, hiByte w]
  | .eorIndX b1 => [0x41, b1]
  | .eorIndY b1 => [0x51, b1]
  | .bitZp b1 => [0x24, b1]
  | .bitAbs w => [0x2C, loByte w, hiByte w]
  | .aslZp b1 => [0x06, b1]
  | .aslZpX b1 => [0x16, b1]
  | .aslAbs w => [0x0E, loByte w, hiByte w]
  | .aslAbsX w => [0x1E, loByte w, hiByte w]
  | .aslA => [0x0A]
  | .lsrZp b1 => [0x46, b1]
  | .lsrZpX b1 => [0x56, b1]
  | .lsrAbs w => [0x4E, loByte w, hiByte w]
  | .lsrAbsX w => [0x5E, loByte w, hiByte w]
  | .lsrA => [0x4A]
  | .rolZp b1 => [0x26, b1]
  | .rolZpX b1 => [0x36, b1]
  | .rolAbs w => [0x2E, loByte w, hiByte w]
  | .rolAbsX w => [0x3E, loByte w, hiByte w]
  | .rolA => [0x2A]
  | .rorZp b1 => [0x66, b1]
  | .rorZpX b1 => [0x76, b1]
  | .rorAbs w => [0x6E, loByte w, hiByte w]
  | .rorAbsX w => [0x7E, loByte w, hiByte w]
  | .rorA => [0x6A]
  | .brk => [0x00]
  | .bpl b1 => [0x10, b1]
  | .bmi b1 => [0x30, b1]
  | .bvc b1 => [0x50, b1]
  | .bvs b1 => [0x70, b1]
  | .bcc b1 => [0x90, b1]
  | .bcs b1 => [0xB0, b1]
  | .bne b1 => [0xD0, b1]
  | .beq b1 => [0xF0, b1]
  | .jmpAbs w => [0x4C, loByte w, hiByte w]
  | .jmpInd w => [0x6C, loByte w, hiByte w]
  | .jsr w => [0x20, loByte w, hiByte w]
  | .rts => [0x60]
  | .pha => [0x48]
  | .pla => [0x68]
  | .txs => [0x9A]
  | .tsx => [0xBA]
  | .tax => [0xAA]
  | .tay => [0xA8]
  | .txa => [0x8A]
  | .tya => [0x98]
  | .clc => [0x18]
  | .sec => [0x38]
  | .clv => [0xB8]
  | .nop => [0xEA]

/-- The three bytes of an instruction whose bits are `w`, numbered as the opcode table numbers them: the first byte is bits
7 to 0. Bits at and above `nbits` are 0. -/
def tableBytes (nbits w : Nat) : List Byte :=
  let v := w % 2 ^ nbits
  [BitVec.ofNat 8 v, BitVec.ofNat 8 (v / 256), BitVec.ofNat 8 (v / 65536)]

/-- What the decoder reads from a word of the opcode table (both profiles' rows). -/
def decodeTableWord (nbits w : Nat) : Option Instr :=
  match decode .extended (tableBytes nbits w) with
  | .ok (i, _) => some i
  | .error _ => none

end Sys2Proof
end

