-- ==== Sys2Proof/Machine/Memory.lean ====
section
/-!
DEFINITION. Memory: 65536 cells of 8 bits, zero-initialized (R36), with the primitives of rules R50 to R55. It is a list
of (address, byte) pairs with strictly rising addresses and no zero entry; an address the list does not name reads as
zero, which is what the spec gives a cell nothing has written (R36, R45; Log 9).
-/

namespace Sys2Proof.Machine

abbrev Memory := List Host.Cell

/-- What a byte that nothing has written reads as: memory is "zero-initialized" (R36). -/
def Memory.unlisted : Byte := 0

/-- `MemRead(addr, 1)` (R50). -/
def Memory.read (m : Memory) (a : Addr) : Byte :=
  match m.find? (fun c => c.1 == a.toNat) with
  | some c => c.2
  | none => Memory.unlisted

/-- The list without its entries at an address. -/
def Memory.erase (m : Memory) (k : Nat) : Memory := m.filter (fun c => c.1 != k)

/-- The list with an entry put before the first greater address. -/
def Memory.insert (k : Nat) (v : Byte) : Memory → Memory
  | [] => [(k, v)]
  | c :: t => if k < c.1 then (k, v) :: c :: t else c :: Memory.insert k v t

/-- `MemWrite(addr, 1, v)` (R51), keeping the canonical form. -/
def Memory.write (m : Memory) (a : Addr) (v : Byte) : Memory :=
  if v = Memory.unlisted then m.erase a.toNat else Memory.insert a.toNat v (m.erase a.toNat)

/-- `MemRead(addr, 2)` (R53): little-endian, the second address wraps at 65536. -/
def Memory.readWord (m : Memory) (a : Addr) : Addr := pair (m.read (a + 1)) (m.read a)

/-- `MemWrite(addr, 2, w)` (R54): low byte first. -/
def Memory.writeWord (m : Memory) (a : Addr) (w : Addr) : Memory :=
  (m.write a (loByte w)).write (a + 1) (hiByte w)

/-- `ZpWord(p)` (R55): the high byte is fetched from `p +8 1`, inside the zero page. -/
def Memory.zpWord (m : Memory) (p : Byte) : Addr := pair (m.read (zext16 (p + 1))) (m.read (zext16 p))

/-- `MemWrite(base + i, 1, program[i])` for each byte in turn (the copy of R52). -/
def Memory.writeBytes (m : Memory) (base : Addr) : List Byte → Memory
  | [] => m
  | v :: rest => Memory.writeBytes (m.write base v) (base + 1) rest

/-- Addresses rise strictly from `lo` on, lie below 65536, and no entry is zero. -/
def Memory.wfFrom (lo : Nat) : Memory → Bool
  | [] => true
  | c :: t => decide (lo ≤ c.1) && decide (c.1 < 65536) && c.2 != Memory.unlisted && Memory.wfFrom (c.1 + 1) t

/-- The canonical form of memory: equal memories are equal lists (Log 9). -/
def Memory.wf (m : Memory) : Bool := Memory.wfFrom 0 m

end Sys2Proof.Machine
end

