-- ==== Sys2Proof/Machine/Status.lean ====
section
/-!
DEFINITION. The status register as eight separate bits (R28), its one-byte view (R30), and what a result byte or a sum
says about the flags (R32, R140).
-/

namespace Sys2Proof.Machine

/-- CPUFlags (R28): Carry, Zero, InterruptDisable, DecimalMode, Break, Break2, Overflow, Negative. -/
structure Flags where
  c : Bool
  z : Bool
  i : Bool
  d : Bool
  b : Bool
  b2 : Bool
  v : Bool
  n : Bool
  deriving DecidableEq, Repr

/-- The flags that a status byte stands for (R30). -/
def Flags.ofByte (s : Byte) : Flags where
  c := s.getLsbD 0
  z := s.getLsbD 1
  i := s.getLsbD 2
  d := s.getLsbD 3
  b := s.getLsbD 4
  b2 := s.getLsbD 5
  v := s.getLsbD 6
  n := s.getLsbD 7

/-- The status register shown as one byte (R30); only a host that displays it uses this. -/
def Flags.toByte (f : Flags) : Byte :=
  flagByte f.c ||| flagByte f.z <<< 1 ||| flagByte f.i <<< 2 ||| flagByte f.d <<< 3 |||
    flagByte f.b <<< 4 ||| flagByte f.b2 <<< 5 ||| flagByte f.v <<< 6 ||| flagByte f.n <<< 7

/-- `setZN(v)` on the flags (R32): both are assigned. -/
def Flags.setZN (f : Flags) (v : Byte) : Flags := { f with z := v == 0, n := bit7 v }

/-- The sum of ADC and SBC, a natural number from 0 to 511 (R140, R141). -/
def carrySum (a m : Byte) (c : Bool) : Nat := a.toNat + m.toNat + c.toNat

/-- The sign-change test for Overflow, `((m ^ r) & (r ^ a) & 0x80) != 0` (R140). -/
def signChange (a m r : Byte) : Bool := (m ^^^ r) &&& (r ^^^ a) &&& 0x80 != 0

end Sys2Proof.Machine
end

