-- ==== Sys2Proof/Machine/State.lean ====
section
/-!
DEFINITION. The state of the machine (`10_state.md`, R20 to R47), the reasons a step can stop (R241), and the state after
reset (R46).
-/

namespace Sys2Proof.Machine

/-- The fatal conditions, exactly the three of R241. -/
inductive Fault where
  /-- The fetched opcode byte has no row in the active profile's table. Raised by the step at look-up; safe: it is what
  the spec says happens. -/
  | unrecognizedOpcode (code : Byte)
  /-- NoneAddressing was given to the resolver. Raised by `resolve`, which no decoded instruction reaches (R244); safe. -/
  | invalidAddressingMode (mode : AddressingMode)
  /-- `base + len > 65536`. Raised by the host operation `loadProgram`, never in a run (R52); safe. -/
  | programTooLarge (base : Addr) (len : Nat)
  deriving DecidableEq, Repr

/-- Why a step has no meaning. -/
inductive Refusal where
  /-- An instruction whose meaning is not written yet; no arm of `exec` answers it. Safe. -/
  | notModelled (mnemonic : String)
  /-- The run has ended: `halted` has no step (R37, U16). Raised by `step`; safe: a new run is the host's to start, by
  `hostStep` or `startRun` (Log 6). -/
  | runEnded
  deriving DecidableEq, Repr

/-- The run state (R37). -/
inductive RunState where
  | idle
  | running
  | halted
  | faulted (f : Fault)
  deriving DecidableEq, Repr

/-- The whole state (R47), the configuration the machine was built with (Log 1), and for `HOST = hook` (Log 8) the moves of
the host that are given beforehand, `hostMoves`, and how many moves it has made, `hostTurns`. -/
structure State where
  a : Byte
  x : Byte
  y : Byte
  sp : Byte
  pc : Addr
  p : Flags
  mem : Memory
  run : RunState
  cfg : Config
  hostMoves : List HostMove
  hostTurns : Nat
  deriving DecidableEq, Repr

/-- `new()` (R45, R270): the construction state under a configuration. -/
def State.new (cfg : Config) : State where
  a := 0
  x := 0
  y := 0
  sp := 0xFD
  pc := 0
  p := Flags.ofByte cfg.statusReset
  mem := []
  run := .idle
  cfg := cfg
  hostMoves := []
  hostTurns := 0

/-- A constructed machine right after `reset()` (R46, R272): in fresh memory the reset vector is 0x0000, so `pc` is 0x0000;
`run` is still `idle`. The configuration is `Config.allRows` (Log 2, Log 3); how a program comes to run is Log 5. -/
def State.reset : State where
  a := 0
  x := 0
  y := 0
  sp := 0xFD
  pc := Memory.readWord [] 0xFFFC
  p := Flags.ofByte Config.allRows.statusReset
  mem := []
  run := .idle
  cfg := Config.allRows
  hostMoves := []
  hostTurns := 0

end Sys2Proof.Machine
end

