-- ==== Sys2Proof/Machine/Ops.lean ====
section
/-!
DEFINITION. The named operations over registers, memory and the stack that every meaning is written with (R15, R205 to
R208), and the raising of a fault (R243). The machine has no other exception entry and no return from one (R251).
-/

namespace Sys2Proof.Machine

/-- The three general registers (R20). -/
inductive Reg where
  | a
  | x
  | y
  deriving DecidableEq, Repr

/-- `LOGIC_DEST` as a register (R8). -/
def logicReg : LogicDest → Reg
  | .x => .x
  | .a => .a

/-- `x[r]`, read (R15). -/
def State.reg (s : State) : Reg → Byte
  | .a => s.a
  | .x => s.x
  | .y => s.y

/-- `x[r] <- v` (R15). -/
def State.setReg (s : State) (r : Reg) (v : Byte) : State :=
  match r with
  | .a => { s with a := v }
  | .x => { s with x := v }
  | .y => { s with y := v }

/-- `SP <- v` (R15). -/
def State.setSP (s : State) (v : Byte) : State := { s with sp := v }

/-- `pc <- target` (R15). -/
def State.setPc (s : State) (target : Addr) : State := { s with pc := target }

/-- `pc <- pc +16 n`, the loop's advance (R24, R25, R240). -/
def State.advance (s : State) (n : Addr) : State := s.setPc (s.pc + n)

/-- `MemRead(addr, 1)` (R50). -/
def State.read (s : State) (a : Addr) : Byte := s.mem.read a

/-- `MemWrite(addr, 1, v)` (R51). -/
def State.write (s : State) (a : Addr) (v : Byte) : State := { s with mem := s.mem.write a v }

/-- `run <- r` (R37). -/
def State.setRun (s : State) (r : RunState) : State := { s with run := r }

/-- `raise f` inside a step (R243): `run <- faulted(f)`, and everything assigned before it stands. -/
def State.raise (s : State) (f : Fault) : State := s.setRun (.faulted f)

/-- `halt` (R15, R185). -/
def State.halt (s : State) : State := s.setRun .halted

/-- The cell `SP` designates, `0x0100 + SP` (R27). -/
def stackAddr (sp : Byte) : Addr := 0x0100 + zext16 sp

/-- `push(v)` (R205): write, then decrement. -/
def State.push (s : State) (v : Byte) : State := (s.write (stackAddr s.sp) v).setSP (s.sp - 1)

/-- `pop()` (R206): increment, then read. -/
def State.pop (s : State) : Byte × State :=
  let t := s.setSP (s.sp + 1)
  (t.read (stackAddr t.sp), t)

/-- `push16(w)` (R207): high byte first. -/
def State.push16 (s : State) (w : Addr) : State := (s.push (hiByte w)).push (loByte w)

/-- `pop16()` (R208): low byte, then high byte. -/
def State.pop16 (s : State) : Addr × State :=
  let (lo, s1) := s.pop
  let (hi, s2) := s1.pop
  (pair hi lo, s2)

end Sys2Proof.Machine
end

