-- ==== Sys2Proof/Machine/Flags.lean ====
section
/-!
DEFINITION. The flag computations on the state (R31, R32) and the three shared computations that set flags and a result
together: load a register (R123), add with carry (R140), compare (R149).
-/

namespace Sys2Proof.Machine

/-- `setZN(v)` (R32). -/
def State.setZN (s : State) (v : Byte) : State := { s with p := s.p.setZN v }

/-- `P.C <- c` (R15). -/
def State.setC (s : State) (c : Bool) : State := { s with p := { s.p with c := c } }

/-- `P.Z <- z` (R15). -/
def State.setZ (s : State) (z : Bool) : State := { s with p := { s.p with z := z } }

/-- `P.V <- v` (R15). -/
def State.setV (s : State) (v : Bool) : State := { s with p := { s.p with v := v } }

/-- `P.N <- n` (R15). -/
def State.setN (s : State) (n : Bool) : State := { s with p := { s.p with n := n } }

/-- `x[r] <- v; setZN(v)`: the flags follow the value stored (R123). -/
def State.load (s : State) (r : Reg) (v : Byte) : State := (s.setReg r v).setZN v

/-- The add path that ADC and SBC share (R140, R141): always binary, DecimalMode is not read (R142). -/
def State.addWithCarry (s : State) (m : Byte) : State :=
  let sum := carrySum s.a m s.p.c
  let r := BitVec.ofNat 8 sum
  (((s.setC (decide (sum > 255))).setV (signChange s.a m r)).load .a r)

/-- The compare path of CMP, CPX and CPY (R149): unsigned comparison into Carry, Zero and Negative from the difference. -/
def State.compare (s : State) (r : Reg) (m : Byte) : State :=
  (s.setC (decide (m.toNat ≤ (s.reg r).toNat))).setZN (s.reg r - m)

end Sys2Proof.Machine
end

