-- ==== Sys2Proof/Machine/Operands.lean ====
section
/-!
DEFINITION. Operand forms. An `Operand` is one of the nine addressing modes that have an address (R90 to R98) together
with the operand bytes of the instruction; `resolve` is the spec's Addressing Resolver, which reads those bytes at the
operand pointer (R89) and raises the fault of R99. During a handler `pc` is the operand pointer (R24).
-/

namespace Sys2Proof.Machine

/-- An addressing mode with its operand bytes: `b1` (R82) or `w = {b2, b1}` (R83). -/
inductive Operand where
  | immediate (b1 : Byte)
  | zeroPage (b1 : Byte)
  | zeroPageX (b1 : Byte)
  | zeroPageY (b1 : Byte)
  | absolute (w : Addr)
  | absoluteX (w : Addr)
  | absoluteY (w : Addr)
  | indirectX (b1 : Byte)
  | indirectY (b1 : Byte)
  deriving DecidableEq, Repr

/-- The mode's name (R88). -/
def Operand.mode : Operand → AddressingMode
  | .immediate _ => .immediate
  | .zeroPage _ => .zeroPage
  | .zeroPageX _ => .zeroPageX
  | .zeroPageY _ => .zeroPageY
  | .absolute _ => .absolute
  | .absoluteX _ => .absoluteX
  | .absoluteY _ => .absoluteY
  | .indirectX _ => .indirectX
  | .indirectY _ => .indirectY

/-- The operand's bytes in memory, ascending (R82, R83, R100). -/
def Operand.bytes : Operand → List Byte
  | .immediate b1 | .zeroPage b1 | .zeroPageX b1 | .zeroPageY b1 | .indirectX b1 | .indirectY b1 => [b1]
  | .absolute w | .absoluteX w | .absoluteY w => [loByte w, hiByte w]

/-- `operand_length` (R100). -/
def Operand.size : Operand → Addr
  | .immediate _ | .zeroPage _ | .zeroPageX _ | .zeroPageY _ | .indirectX _ | .indirectY _ => 1
  | .absolute _ | .absoluteX _ | .absoluteY _ => 2

/-- The effective address, mode by mode (R90 to R98). -/
def Operand.ea (o : Operand) (s : State) : Addr :=
  match o with
  | .immediate _ => s.pc
  | .zeroPage b1 => zext16 b1
  | .zeroPageX b1 => zext16 (b1 + s.x)
  | .zeroPageY b1 => zext16 (b1 + s.y)
  | .absolute w => w
  | .absoluteX w => w + zext16 s.x
  | .absoluteY w => w + zext16 s.y
  | .indirectX b1 => s.mem.zpWord (b1 + s.x)
  | .indirectY b1 => s.mem.zpWord b1 + zext16 s.y

/-- The operand's byte, `MemRead(EA, 1)`; in Immediate that byte is `b1` itself (R90; Log 10). -/
def Operand.value (o : Operand) (s : State) : Byte :=
  match o with
  | .immediate b1 => b1
  | o => s.read (o.ea s)

/-- The operand that stands at the operand pointer, read as the mode says (R90 to R99). -/
def operandAt (mode : AddressingMode) (s : State) : Except Fault Operand :=
  match mode with
  | .immediate => .ok (.immediate (s.read s.pc))
  | .zeroPage => .ok (.zeroPage (s.read s.pc))
  | .zeroPageX => .ok (.zeroPageX (s.read s.pc))
  | .zeroPageY => .ok (.zeroPageY (s.read s.pc))
  | .absolute => .ok (.absolute (s.mem.readWord s.pc))
  | .absoluteX => .ok (.absoluteX (s.mem.readWord s.pc))
  | .absoluteY => .ok (.absoluteY (s.mem.readWord s.pc))
  | .indirectX => .ok (.indirectX (s.read s.pc))
  | .indirectY => .ok (.indirectY (s.read s.pc))
  | .noneAddressing => .error (.invalidAddressingMode .noneAddressing)

/-- `EA(mode)`, the Addressing Resolver (R89): it writes nothing. -/
def resolve (mode : AddressingMode) (s : State) : Except Fault Addr := (operandAt mode s).map (·.ea s)

/-- What a meaning answers. -/
abbrev Result := Host.Outcome State Fault Refusal

/-- Stages (5) and (6) of R240 for a handler with a resolved operand: run it, then advance by `operand_length`. -/
def runOperand (handler : Operand → State → State) (o : Operand) (s : State) : Result :=
  .next ((handler o s).advance o.size)

/-- Stages (5) and (6) of R240 for a handler with no operand byte (`operand_length` 0). -/
def runImplied (handler : State → State) (s : State) : Result := .next ((handler s).advance 0)

end Sys2Proof.Machine
end

