-- ==== Sys2Proof/Machine/Arithmetic.lean ====
section
/-!
DEFINITION. Arithmetic instructions (`42_arithmetic.md`, R140 to R153).
Each row of the opcode table has a meaning of its own over the mnemonic's handler; `pc` is the operand pointer on entry (R24).
-/

namespace Sys2Proof.Machine

/-- `MemWrite(addr, 1, r); setZN(r)`: the write back of INC, DEC and the shifts (R147, R148, R170). -/
def State.modify (s : State) (addr : Addr) (r : Byte) : State := (s.write addr r).setZN r

/-- ADC (R140). -/
def handleAdc (o : Operand) (s : State) : State :=
  s.addWithCarry (o.value s)

/-- ADC `0x69`, Immediate (R140). -/
def execAdcImm (b1 : Byte) (s : State) : Result := runOperand handleAdc (.immediate b1) s

/-- ADC `0x65`, ZeroPage (R140). -/
def execAdcZp (b1 : Byte) (s : State) : Result := runOperand handleAdc (.zeroPage b1) s

/-- ADC `0x75`, ZeroPage_X (R140). -/
def execAdcZpX (b1 : Byte) (s : State) : Result := runOperand handleAdc (.zeroPageX b1) s

/-- ADC `0x6D`, Absolute (R140). -/
def execAdcAbs (w : Addr) (s : State) : Result := runOperand handleAdc (.absolute w) s

/-- ADC `0x7D`, Absolute_X (R140). -/
def execAdcAbsX (w : Addr) (s : State) : Result := runOperand handleAdc (.absoluteX w) s

/-- ADC `0x79`, Absolute_Y (R140). -/
def execAdcAbsY (w : Addr) (s : State) : Result := runOperand handleAdc (.absoluteY w) s

/-- ADC `0x61`, Indirect_X (R140). -/
def execAdcIndX (b1 : Byte) (s : State) : Result := runOperand handleAdc (.indirectX b1) s

/-- ADC `0x71`, Indirect_Y (R140). -/
def execAdcIndY (b1 : Byte) (s : State) : Result := runOperand handleAdc (.indirectY b1) s

/-- SBC (R141): the add path with the operand inverted. -/
def handleSbc (o : Operand) (s : State) : State :=
  s.addWithCarry (~~~(o.value s))

/-- SBC `0xE9`, Immediate (R141). -/
def execSbcImm (b1 : Byte) (s : State) : Result := runOperand handleSbc (.immediate b1) s

/-- SBC `0xE5`, ZeroPage (R141). -/
def execSbcZp (b1 : Byte) (s : State) : Result := runOperand handleSbc (.zeroPage b1) s

/-- SBC `0xF5`, ZeroPage_X (R141). -/
def execSbcZpX (b1 : Byte) (s : State) : Result := runOperand handleSbc (.zeroPageX b1) s

/-- SBC `0xED`, Absolute (R141). -/
def execSbcAbs (w : Addr) (s : State) : Result := runOperand handleSbc (.absolute w) s

/-- SBC `0xFD`, Absolute_X (R141). -/
def execSbcAbsX (w : Addr) (s : State) : Result := runOperand handleSbc (.absoluteX w) s

/-- SBC `0xF9`, Absolute_Y (R141). -/
def execSbcAbsY (w : Addr) (s : State) : Result := runOperand handleSbc (.absoluteY w) s

/-- SBC `0xE1`, Indirect_X (R141). -/
def execSbcIndX (b1 : Byte) (s : State) : Result := runOperand handleSbc (.indirectX b1) s

/-- SBC `0xF1`, Indirect_Y (R141). -/
def execSbcIndY (b1 : Byte) (s : State) : Result := runOperand handleSbc (.indirectY b1) s

/-- INX (R143): `x[X] +8 1`; C and V unchanged. -/
def handleInx (s : State) : State :=
  s.load .x (s.reg .x + 1)

/-- INX `0xE8`, NoneAddressing (R143). -/
def execInx (s : State) : Result := runImplied handleInx s

/-- INY (R144): `x[Y] +8 1`; C and V unchanged. -/
def handleIny (s : State) : State :=
  s.load .y (s.reg .y + 1)

/-- INY `0xC8`, NoneAddressing (R144). -/
def execIny (s : State) : Result := runImplied handleIny s

/-- DEX (R145): `x[X] -8 1`; C and V unchanged. -/
def handleDex (s : State) : State :=
  s.load .x (s.reg .x - 1)

/-- DEX `0xCA`, NoneAddressing (R145). -/
def execDex (s : State) : Result := runImplied handleDex s

/-- DEY (R146): `x[Y] -8 1`; C and V unchanged. -/
def handleDey (s : State) : State :=
  s.load .y (s.reg .y - 1)

/-- DEY `0x88`, NoneAddressing (R146). -/
def execDey (s : State) : Result := runImplied handleDey s

/-- INC (R147): read, add 1, write back at the same address. -/
def handleInc (o : Operand) (s : State) : State :=
  s.modify (o.ea s) (s.read (o.ea s) + 1)

/-- INC `0xE6`, ZeroPage (R147). -/
def execIncZp (b1 : Byte) (s : State) : Result := runOperand handleInc (.zeroPage b1) s

/-- INC `0xF6`, ZeroPage_X (R147). -/
def execIncZpX (b1 : Byte) (s : State) : Result := runOperand handleInc (.zeroPageX b1) s

/-- INC `0xEE`, Absolute (R147). -/
def execIncAbs (w : Addr) (s : State) : Result := runOperand handleInc (.absolute w) s

/-- INC `0xFE`, Absolute_X (R147). -/
def execIncAbsX (w : Addr) (s : State) : Result := runOperand handleInc (.absoluteX w) s

/-- DEC (R148): read, subtract 1, write back at the same address. -/
def handleDec (o : Operand) (s : State) : State :=
  s.modify (o.ea s) (s.read (o.ea s) - 1)

/-- DEC `0xC6`, ZeroPage (R148). -/
def execDecZp (b1 : Byte) (s : State) : Result := runOperand handleDec (.zeroPage b1) s

/-- DEC `0xD6`, ZeroPage_X (R148). -/
def execDecZpX (b1 : Byte) (s : State) : Result := runOperand handleDec (.zeroPageX b1) s

/-- DEC `0xCE`, Absolute (R148). -/
def execDecAbs (w : Addr) (s : State) : Result := runOperand handleDec (.absolute w) s

/-- DEC `0xDE`, Absolute_X (R148). -/
def execDecAbsX (w : Addr) (s : State) : Result := runOperand handleDec (.absoluteX w) s

/-- CMP (R149): compare `A` with the operand. -/
def handleCmp (o : Operand) (s : State) : State :=
  s.compare .a (o.value s)

/-- CMP `0xC9`, Immediate (R149). -/
def execCmpImm (b1 : Byte) (s : State) : Result := runOperand handleCmp (.immediate b1) s

/-- CMP `0xC5`, ZeroPage (R149). -/
def execCmpZp (b1 : Byte) (s : State) : Result := runOperand handleCmp (.zeroPage b1) s

/-- CMP `0xD5`, ZeroPage_X (R149). -/
def execCmpZpX (b1 : Byte) (s : State) : Result := runOperand handleCmp (.zeroPageX b1) s

/-- CMP `0xCD`, Absolute (R149). -/
def execCmpAbs (w : Addr) (s : State) : Result := runOperand handleCmp (.absolute w) s

/-- CMP `0xDD`, Absolute_X (R149). -/
def execCmpAbsX (w : Addr) (s : State) : Result := runOperand handleCmp (.absoluteX w) s

/-- CMP `0xD9`, Absolute_Y (R149). -/
def execCmpAbsY (w : Addr) (s : State) : Result := runOperand handleCmp (.absoluteY w) s

/-- CMP `0xC1`, Indirect_X (R149). -/
def execCmpIndX (b1 : Byte) (s : State) : Result := runOperand handleCmp (.indirectX b1) s

/-- CMP `0xD1`, Indirect_Y (R149). -/
def execCmpIndY (b1 : Byte) (s : State) : Result := runOperand handleCmp (.indirectY b1) s

/-- CPX (R150): compare `X` with the operand. -/
def handleCpx (o : Operand) (s : State) : State :=
  s.compare .x (o.value s)

/-- CPX `0xE0`, Immediate (R150). -/
def execCpxImm (b1 : Byte) (s : State) : Result := runOperand handleCpx (.immediate b1) s

/-- CPX `0xE4`, ZeroPage (R150). -/
def execCpxZp (b1 : Byte) (s : State) : Result := runOperand handleCpx (.zeroPage b1) s

/-- CPX `0xEC`, Absolute (R150). -/
def execCpxAbs (w : Addr) (s : State) : Result := runOperand handleCpx (.absolute w) s

/-- CPY (R151): compare `Y` with the operand. -/
def handleCpy (o : Operand) (s : State) : State :=
  s.compare .y (o.value s)

/-- CPY `0xC0`, Immediate (R151). -/
def execCpyImm (b1 : Byte) (s : State) : Result := runOperand handleCpy (.immediate b1) s

/-- CPY `0xC4`, ZeroPage (R151). -/
def execCpyZp (b1 : Byte) (s : State) : Result := runOperand handleCpy (.zeroPage b1) s

/-- CPY `0xCC`, Absolute (R151). -/
def execCpyAbs (w : Addr) (s : State) : Result := runOperand handleCpy (.absolute w) s

end Sys2Proof.Machine
end

