-- ==== Sys2Proof/Machine/Control.lean ====
section
/-!
DEFINITION. Control transfer: BRK, the branches, JMP, JSR, RTS (`45_branch_jump.md`, R184 to R199). A handler that transfers sets `pc` and the
loop's second advance is skipped (R186).
Each row of the opcode table has a meaning of its own over the mnemonic's handler; `pc` is the operand pointer on entry (R24).
-/

namespace Sys2Proof.Machine

/-- Where a taken branch goes (R187): the address of the next instruction plus the signed offset. -/
def branchTarget (b1 : Byte) (s : State) : Addr := s.pc + 1 + sext16 b1

/-- A branch (R186, R187): taken, it transfers; not taken, the loop adds its `operand_length`, 1. -/
def branchIf (cond : Bool) (b1 : Byte) (s : State) : Result :=
  .next (if cond then s.setPc (branchTarget b1 s) else s.advance 1)

/-- BRK (R185): the run ends; nothing else changes, nothing is pushed, no vector is read. -/
def handleBrk (s : State) : State :=
  s.halt

/-- BRK `0x00`, NoneAddressing (R185). -/
def execBrk (s : State) : Result := runImplied handleBrk s

/-- BPL `0x10` (R187): branch if `P.N == 0`. -/
def execBpl (b1 : Byte) (s : State) : Result := branchIf (!s.p.n) b1 s

/-- BMI `0x30` (R188): branch if `P.N == 1`. -/
def execBmi (b1 : Byte) (s : State) : Result := branchIf s.p.n b1 s

/-- BVC `0x50` (R189): branch if `P.V == 0`. -/
def execBvc (b1 : Byte) (s : State) : Result := branchIf (!s.p.v) b1 s

/-- BVS `0x70` (R190): branch if `P.V == 1`. -/
def execBvs (b1 : Byte) (s : State) : Result := branchIf s.p.v b1 s

/-- BCC `0x90` (R191): branch if `P.C == 0`. -/
def execBcc (b1 : Byte) (s : State) : Result := branchIf (!s.p.c) b1 s

/-- BCS `0xB0` (R192): branch if `P.C == 1`. -/
def execBcs (b1 : Byte) (s : State) : Result := branchIf s.p.c b1 s

/-- BNE `0xD0` (R193): branch if `P.Z == 0`. -/
def execBne (b1 : Byte) (s : State) : Result := branchIf (!s.p.z) b1 s

/-- BEQ `0xF0` (R194): branch if `P.Z == 1`. -/
def execBeq (b1 : Byte) (s : State) : Result := branchIf s.p.z b1 s

/-- JMP absolute (R195). -/
def handleJmpAbs (w : Addr) (s : State) : State := s.setPc w

/-- The target word of JMP indirect (R196): the high byte is fetched from the same page as the low byte. -/
def jmpIndTarget (ptr : Addr) (s : State) : Addr :=
  pair (s.read (pair (hiByte ptr) (loByte ptr + 1))) (s.read ptr)

/-- JMP indirect (R196). -/
def handleJmpInd (w : Addr) (s : State) : State := s.setPc (jmpIndTarget w s)

/-- JMP `0x4C`, absolute jump (R195). -/
def execJmpAbs (w : Addr) (s : State) : Result := .next (handleJmpAbs w s)

/-- JMP `0x6C`, indirect jump (R196). -/
def execJmpInd (w : Addr) (s : State) : Result := .next (handleJmpInd w s)

/-- JSR (R197): push the address of the instruction's last byte, then transfer. -/
def handleJsr (w : Addr) (s : State) : State := (s.push16 (s.pc + 1)).setPc w

/-- JSR `0x20`, absolute jump (R197). -/
def execJsr (w : Addr) (s : State) : Result := .next (handleJsr w s)

/-- RTS (R198): transfer to the popped word plus one. -/
def handleRts (s : State) : State :=
  let (w, t) := s.pop16
  t.setPc (w + 1)

/-- RTS `0x60`, NoneAddressing (R198). -/
def execRts (s : State) : Result := .next (handleRts s)

end Sys2Proof.Machine
end

