-- ==== Sys2Proof/Machine/FlagNop.lean ====
section
/-!
DEFINITION. Flag instructions CLC, SEC, CLV and NOP (`48_flag_nop.md`, R230 to R233).
Each row of the opcode table has a meaning of its own over the mnemonic's handler; `pc` is the operand pointer on entry (R24).
-/

namespace Sys2Proof.Machine

/-- CLC (R230). -/
def handleClc (s : State) : State :=
  s.setC false

/-- CLC `0x18`, NoneAddressing (R230). -/
def execClc (s : State) : Result := runImplied handleClc s

/-- SEC (R231). -/
def handleSec (s : State) : State :=
  s.setC true

/-- SEC `0x38`, NoneAddressing (R231). -/
def execSec (s : State) : Result := runImplied handleSec s

/-- CLV (R232). -/
def handleClv (s : State) : State :=
  s.setV false

/-- CLV `0xB8`, NoneAddressing (R232). -/
def execClv (s : State) : Result := runImplied handleClv s

/-- NOP (R233): the handler does nothing. -/
def handleNop (s : State) : State :=
  s

/-- NOP `0xEA`, NoneAddressing (R233). -/
def execNop (s : State) : Result := runImplied handleNop s

end Sys2Proof.Machine
end

