-- ==== Sys2Proof/Machine/Load.lean ====
section
/-!
DEFINITION. Load instructions LDA, LDX, LDY (`40_load.md`, R120 to R123).
Each row of the opcode table has a meaning of its own over the mnemonic's handler; `pc` is the operand pointer on entry (R24).
-/

namespace Sys2Proof.Machine

/-- LDA (R120): load `A`, set Z and N from the value. -/
def handleLda (o : Operand) (s : State) : State :=
  s.load .a (o.value s)

/-- LDA `0xA9`, Immediate (R120). -/
def execLdaImm (b1 : Byte) (s : State) : Result := runOperand handleLda (.immediate b1) s

/-- LDA `0xA5`, ZeroPage (R120). -/
def execLdaZp (b1 : Byte) (s : State) : Result := runOperand handleLda (.zeroPage b1) s

/-- LDA `0xB5`, ZeroPage_X (R120). -/
def execLdaZpX (b1 : Byte) (s : State) : Result := runOperand handleLda (.zeroPageX b1) s

/-- LDA `0xAD`, Absolute (R120). -/
def execLdaAbs (w : Addr) (s : State) : Result := runOperand handleLda (.absolute w) s

/-- LDA `0xBD`, Absolute_X (R120). -/
def execLdaAbsX (w : Addr) (s : State) : Result := runOperand handleLda (.absoluteX w) s

/-- LDA `0xB9`, Absolute_Y (R120). -/
def execLdaAbsY (w : Addr) (s : State) : Result := runOperand handleLda (.absoluteY w) s

/-- LDA `0xA1`, Indirect_X (R120). -/
def execLdaIndX (b1 : Byte) (s : State) : Result := runOperand handleLda (.indirectX b1) s

/-- LDA `0xB1`, Indirect_Y (R120). -/
def execLdaIndY (b1 : Byte) (s : State) : Result := runOperand handleLda (.indirectY b1) s

/-- LDX (R121): load `X`, set Z and N from the value. -/
def handleLdx (o : Operand) (s : State) : State :=
  s.load .x (o.value s)

/-- LDX `0xA2`, Immediate (R121). -/
def execLdxImm (b1 : Byte) (s : State) : Result := runOperand handleLdx (.immediate b1) s

/-- LDX `0xA6`, ZeroPage (R121). -/
def execLdxZp (b1 : Byte) (s : State) : Result := runOperand handleLdx (.zeroPage b1) s

/-- LDX `0xB6`, ZeroPage_Y (R121). -/
def execLdxZpY (b1 : Byte) (s : State) : Result := runOperand handleLdx (.zeroPageY b1) s

/-- LDX `0xAE`, Absolute (R121). -/
def execLdxAbs (w : Addr) (s : State) : Result := runOperand handleLdx (.absolute w) s

/-- LDX `0xBE`, Absolute_Y (R121). -/
def execLdxAbsY (w : Addr) (s : State) : Result := runOperand handleLdx (.absoluteY w) s

/-- LDY (R122): load `Y`, set Z and N from the value. -/
def handleLdy (o : Operand) (s : State) : State :=
  s.load .y (o.value s)

/-- LDY `0xA0`, Immediate (R122). -/
def execLdyImm (b1 : Byte) (s : State) : Result := runOperand handleLdy (.immediate b1) s

/-- LDY `0xA4`, ZeroPage (R122). -/
def execLdyZp (b1 : Byte) (s : State) : Result := runOperand handleLdy (.zeroPage b1) s

/-- LDY `0xB4`, ZeroPage_X (R122). -/
def execLdyZpX (b1 : Byte) (s : State) : Result := runOperand handleLdy (.zeroPageX b1) s

/-- LDY `0xAC`, Absolute (R122). -/
def execLdyAbs (w : Addr) (s : State) : Result := runOperand handleLdy (.absolute w) s

/-- LDY `0xBC`, Absolute_X (R122). -/
def execLdyAbsX (w : Addr) (s : State) : Result := runOperand handleLdy (.absoluteX w) s

end Sys2Proof.Machine
end

