-- ==== Sys2Proof/Machine/Logical.lean ====
section
/-!
DEFINITION. Logical instructions AND, ORA, EOR, BIT (`43_logical.md`, R160 to R164).
Each row of the opcode table has a meaning of its own over the mnemonic's handler; `pc` is the operand pointer on entry (R24).
-/

namespace Sys2Proof.Machine

/-- AND (R160): the result goes to `x[LOGIC_DEST]` (R8, R163); the address is resolved before the write. -/
def handleAnd (o : Operand) (s : State) : State :=
  s.load (logicReg s.cfg.logicDest) (s.a &&& o.value s)

/-- AND `0x29`, Immediate (R160). -/
def execAndImm (b1 : Byte) (s : State) : Result := runOperand handleAnd (.immediate b1) s

/-- AND `0x25`, ZeroPage (R160). -/
def execAndZp (b1 : Byte) (s : State) : Result := runOperand handleAnd (.zeroPage b1) s

/-- AND `0x35`, ZeroPage_X (R160). -/
def execAndZpX (b1 : Byte) (s : State) : Result := runOperand handleAnd (.zeroPageX b1) s

/-- AND `0x2D`, Absolute (R160). -/
def execAndAbs (w : Addr) (s : State) : Result := runOperand handleAnd (.absolute w) s

/-- AND `0x3D`, Absolute_X (R160). -/
def execAndAbsX (w : Addr) (s : State) : Result := runOperand handleAnd (.absoluteX w) s

/-- AND `0x39`, Absolute_Y (R160). -/
def execAndAbsY (w : Addr) (s : State) : Result := runOperand handleAnd (.absoluteY w) s

/-- AND `0x21`, Indirect_X (R160). -/
def execAndIndX (b1 : Byte) (s : State) : Result := runOperand handleAnd (.indirectX b1) s

/-- AND `0x31`, Indirect_Y (R160). -/
def execAndIndY (b1 : Byte) (s : State) : Result := runOperand handleAnd (.indirectY b1) s

/-- ORA (R161): the result goes to `x[LOGIC_DEST]` (R8, R163); the address is resolved before the write. -/
def handleOra (o : Operand) (s : State) : State :=
  s.load (logicReg s.cfg.logicDest) (s.a ||| o.value s)

/-- ORA `0x09`, Immediate (R161). -/
def execOraImm (b1 : Byte) (s : State) : Result := runOperand handleOra (.immediate b1) s

/-- ORA `0x05`, ZeroPage (R161). -/
def execOraZp (b1 : Byte) (s : State) : Result := runOperand handleOra (.zeroPage b1) s

/-- ORA `0x15`, ZeroPage_X (R161). -/
def execOraZpX (b1 : Byte) (s : State) : Result := runOperand handleOra (.zeroPageX b1) s

/-- ORA `0x0D`, Absolute (R161). -/
def execOraAbs (w : Addr) (s : State) : Result := runOperand handleOra (.absolute w) s

/-- ORA `0x1D`, Absolute_X (R161). -/
def execOraAbsX (w : Addr) (s : State) : Result := runOperand handleOra (.absoluteX w) s

/-- ORA `0x19`, Absolute_Y (R161). -/
def execOraAbsY (w : Addr) (s : State) : Result := runOperand handleOra (.absoluteY w) s

/-- ORA `0x01`, Indirect_X (R161). -/
def execOraIndX (b1 : Byte) (s : State) : Result := runOperand handleOra (.indirectX b1) s

/-- ORA `0x11`, Indirect_Y (R161). -/
def execOraIndY (b1 : Byte) (s : State) : Result := runOperand handleOra (.indirectY b1) s

/-- EOR (R162): the result goes to `x[LOGIC_DEST]` (R8, R163); the address is resolved before the write. -/
def handleEor (o : Operand) (s : State) : State :=
  s.load (logicReg s.cfg.logicDest) (s.a ^^^ o.value s)

/-- EOR `0x49`, Immediate (R162). -/
def execEorImm (b1 : Byte) (s : State) : Result := runOperand handleEor (.immediate b1) s

/-- EOR `0x45`, ZeroPage (R162). -/
def execEorZp (b1 : Byte) (s : State) : Result := runOperand handleEor (.zeroPage b1) s

/-- EOR `0x55`, ZeroPage_X (R162). -/
def execEorZpX (b1 : Byte) (s : State) : Result := runOperand handleEor (.zeroPageX b1) s

/-- EOR `0x4D`, Absolute (R162). -/
def execEorAbs (w : Addr) (s : State) : Result := runOperand handleEor (.absolute w) s

/-- EOR `0x5D`, Absolute_X (R162). -/
def execEorAbsX (w : Addr) (s : State) : Result := runOperand handleEor (.absoluteX w) s

/-- EOR `0x59`, Absolute_Y (R162). -/
def execEorAbsY (w : Addr) (s : State) : Result := runOperand handleEor (.absoluteY w) s

/-- EOR `0x41`, Indirect_X (R162). -/
def execEorIndX (b1 : Byte) (s : State) : Result := runOperand handleEor (.indirectX b1) s

/-- EOR `0x51`, Indirect_Y (R162). -/
def execEorIndY (b1 : Byte) (s : State) : Result := runOperand handleEor (.indirectY b1) s

/-- BIT (R164): Z from the AND, N and V from bits 7 and 6 of the memory byte; no register is written. -/
def handleBit (o : Operand) (s : State) : State :=
  let m := o.value s
  ((s.setZ (s.a &&& m == 0)).setN (bit7 m)).setV (bit6 m)

/-- BIT `0x24`, ZeroPage (R164). -/
def execBitZp (b1 : Byte) (s : State) : Result := runOperand handleBit (.zeroPage b1) s

/-- BIT `0x2C`, Absolute (R164). -/
def execBitAbs (w : Addr) (s : State) : Result := runOperand handleBit (.absolute w) s

end Sys2Proof.Machine
end

