-- ==== Sys2Proof/Machine/Shift.lean ====
section
/-!
DEFINITION. Shift and rotate instructions on memory and on `A` (`44_shift_rotate.md`, R170 to R178).
Each row of the opcode table has a meaning of its own over the mnemonic's handler; `pc` is the operand pointer on entry (R24).
-/

namespace Sys2Proof.Machine

/-- A shift or rotation by one (R178): the byte and the Carry before give the Carry after and the result. -/
abbrev ShiftFn := Byte → Bool → Bool × Byte

/-- ASL: C from bit 7, bit 0 becomes 0 (R170). -/
def shiftLeft : ShiftFn := fun m _ => (bit7 m, m <<< 1)

/-- LSR: C from bit 0, bit 7 becomes 0 (R172). -/
def shiftRight : ShiftFn := fun m _ => (bit0 m, m >>> 1)

/-- ROL: C from bit 7, the old Carry enters bit 0 (R174). -/
def rotateLeft : ShiftFn := fun m c => (bit7 m, m <<< 1 ||| flagByte c)

/-- ROR: C from bit 0, the old Carry enters bit 7 (R176). -/
def rotateRight : ShiftFn := fun m c => (bit0 m, m >>> 1 ||| flagByte c <<< 7)

/-- A shift of a memory byte: one read and one write of the same address, then Z and N from the result (R170). -/
def State.shiftMem (s : State) (f : ShiftFn) (addr : Addr) : State :=
  let (c, r) := f (s.read addr) s.p.c
  (s.setC c).modify addr r

/-- A shift of `A` (R171, R173, R175, R177). -/
def State.shiftA (s : State) (f : ShiftFn) : State :=
  let (c, r) := f s.a s.p.c
  (s.setC c).load .a r

/-- ASL on memory (R170): C from bit 7. -/
def handleAsl (o : Operand) (s : State) : State :=
  s.shiftMem shiftLeft (o.ea s)

/-- ASL `0x06`, ZeroPage (R170). -/
def execAslZp (b1 : Byte) (s : State) : Result := runOperand handleAsl (.zeroPage b1) s

/-- ASL `0x16`, ZeroPage_X (R170). -/
def execAslZpX (b1 : Byte) (s : State) : Result := runOperand handleAsl (.zeroPageX b1) s

/-- ASL `0x0E`, Absolute (R170). -/
def execAslAbs (w : Addr) (s : State) : Result := runOperand handleAsl (.absolute w) s

/-- ASL `0x1E`, Absolute_X (R170). -/
def execAslAbsX (w : Addr) (s : State) : Result := runOperand handleAsl (.absoluteX w) s

/-- ASL A (R171): C from bit 7. -/
def handleAslA (s : State) : State :=
  s.shiftA shiftLeft

/-- ASL_A `0x0A`, accumulator (R171). -/
def execAslA (s : State) : Result := runImplied handleAslA s

/-- LSR on memory (R172): C from bit 0. -/
def handleLsr (o : Operand) (s : State) : State :=
  s.shiftMem shiftRight (o.ea s)

/-- LSR `0x46`, ZeroPage (R172). -/
def execLsrZp (b1 : Byte) (s : State) : Result := runOperand handleLsr (.zeroPage b1) s

/-- LSR `0x56`, ZeroPage_X (R172). -/
def execLsrZpX (b1 : Byte) (s : State) : Result := runOperand handleLsr (.zeroPageX b1) s

/-- LSR `0x4E`, Absolute (R172). -/
def execLsrAbs (w : Addr) (s : State) : Result := runOperand handleLsr (.absolute w) s

/-- LSR `0x5E`, Absolute_X (R172). -/
def execLsrAbsX (w : Addr) (s : State) : Result := runOperand handleLsr (.absoluteX w) s

/-- LSR A (R173): C from bit 0. -/
def handleLsrA (s : State) : State :=
  s.shiftA shiftRight

/-- LSR_A `0x4A`, accumulator (R173). -/
def execLsrA (s : State) : Result := runImplied handleLsrA s

/-- ROL on memory (R174): the old Carry enters bit 0. -/
def handleRol (o : Operand) (s : State) : State :=
  s.shiftMem rotateLeft (o.ea s)

/-- ROL `0x26`, ZeroPage (R174). -/
def execRolZp (b1 : Byte) (s : State) : Result := runOperand handleRol (.zeroPage b1) s

/-- ROL `0x36`, ZeroPage_X (R174). -/
def execRolZpX (b1 : Byte) (s : State) : Result := runOperand handleRol (.zeroPageX b1) s

/-- ROL `0x2E`, Absolute (R174). -/
def execRolAbs (w : Addr) (s : State) : Result := runOperand handleRol (.absolute w) s

/-- ROL `0x3E`, Absolute_X (R174). -/
def execRolAbsX (w : Addr) (s : State) : Result := runOperand handleRol (.absoluteX w) s

/-- ROL A (R175): the old Carry enters bit 0. -/
def handleRolA (s : State) : State :=
  s.shiftA rotateLeft

/-- ROL_A `0x2A`, accumulator (R175). -/
def execRolA (s : State) : Result := runImplied handleRolA s

/-- ROR on memory (R176): the old Carry enters bit 7. -/
def handleRor (o : Operand) (s : State) : State :=
  s.shiftMem rotateRight (o.ea s)

/-- ROR `0x66`, ZeroPage (R176). -/
def execRorZp (b1 : Byte) (s : State) : Result := runOperand handleRor (.zeroPage b1) s

/-- ROR `0x76`, ZeroPage_X (R176). -/
def execRorZpX (b1 : Byte) (s : State) : Result := runOperand handleRor (.zeroPageX b1) s

/-- ROR `0x6E`, Absolute (R176). -/
def execRorAbs (w : Addr) (s : State) : Result := runOperand handleRor (.absolute w) s

/-- ROR `0x7E`, Absolute_X (R176). -/
def execRorAbsX (w : Addr) (s : State) : Result := runOperand handleRor (.absoluteX w) s

/-- ROR A (R177): the old Carry enters bit 7. -/
def handleRorA (s : State) : State :=
  s.shiftA rotateRight

/-- ROR_A `0x6A`, accumulator (R177). -/
def execRorA (s : State) : Result := runImplied handleRorA s

end Sys2Proof.Machine
end

