-- ==== Sys2Proof/Machine/Stack.lean ====
section
/-!
DEFINITION. Stack instructions PHA, PLA, TXS, TSX (`46_stack.md`, R209 to R212).
Each row of the opcode table has a meaning of its own over the mnemonic's handler; `pc` is the operand pointer on entry (R24).
-/

namespace Sys2Proof.Machine

/-- PHA (R209). -/
def handlePha (s : State) : State :=
  s.push s.a

/-- PHA `0x48`, NoneAddressing (R209). -/
def execPha (s : State) : Result := runImplied handlePha s

/-- PLA (R210): Z and N from the value pulled. -/
def handlePla (s : State) : State :=
  let (v, t) := s.pop
  t.load .a v

/-- PLA `0x68`, NoneAddressing (R210). -/
def execPla (s : State) : Result := runImplied handlePla s

/-- TXS (R211): no flag is written. -/
def handleTxs (s : State) : State :=
  s.setSP s.x

/-- TXS `0x9A`, NoneAddressing (R211). -/
def execTxs (s : State) : Result := runImplied handleTxs s

/-- TSX (R212). -/
def handleTsx (s : State) : State :=
  s.load .x s.sp

/-- TSX `0xBA`, NoneAddressing (R212). -/
def execTsx (s : State) : Result := runImplied handleTsx s

end Sys2Proof.Machine
end

