-- ==== Sys2Proof/Machine/Store.lean ====
section
/-!
DEFINITION. Store instructions STA, STX, STY (`41_store.md`, R130 to R132).
Each row of the opcode table has a meaning of its own over the mnemonic's handler; `pc` is the operand pointer on entry (R24).
-/

namespace Sys2Proof.Machine

/-- STA (R130): store `A`; no flag. -/
def handleSta (o : Operand) (s : State) : State :=
  s.write (o.ea s) (s.reg .a)

/-- STA `0x85`, ZeroPage (R130). -/
def execStaZp (b1 : Byte) (s : State) : Result := runOperand handleSta (.zeroPage b1) s

/-- STA `0x95`, ZeroPage_X (R130). -/
def execStaZpX (b1 : Byte) (s : State) : Result := runOperand handleSta (.zeroPageX b1) s

/-- STA `0x8D`, Absolute (R130). -/
def execStaAbs (w : Addr) (s : State) : Result := runOperand handleSta (.absolute w) s

/-- STA `0x9D`, Absolute_X (R130). -/
def execStaAbsX (w : Addr) (s : State) : Result := runOperand handleSta (.absoluteX w) s

/-- STA `0x99`, Absolute_Y (R130). -/
def execStaAbsY (w : Addr) (s : State) : Result := runOperand handleSta (.absoluteY w) s

/-- STA `0x81`, Indirect_X (R130). -/
def execStaIndX (b1 : Byte) (s : State) : Result := runOperand handleSta (.indirectX b1) s

/-- STA `0x91`, Indirect_Y (R130). -/
def execStaIndY (b1 : Byte) (s : State) : Result := runOperand handleSta (.indirectY b1) s

/-- STX (R131): store `X`; no flag. -/
def handleStx (o : Operand) (s : State) : State :=
  s.write (o.ea s) (s.reg .x)

/-- STX `0x86`, ZeroPage (R131). -/
def execStxZp (b1 : Byte) (s : State) : Result := runOperand handleStx (.zeroPage b1) s

/-- STX `0x96`, ZeroPage_Y (R131). -/
def execStxZpY (b1 : Byte) (s : State) : Result := runOperand handleStx (.zeroPageY b1) s

/-- STX `0x8E`, Absolute (R131). -/
def execStxAbs (w : Addr) (s : State) : Result := runOperand handleStx (.absolute w) s

/-- STY (R132): store `Y`; no flag. -/
def handleSty (o : Operand) (s : State) : State :=
  s.write (o.ea s) (s.reg .y)

/-- STY `0x84`, ZeroPage (R132). -/
def execStyZp (b1 : Byte) (s : State) : Result := runOperand handleSty (.zeroPage b1) s

/-- STY `0x94`, ZeroPage_X (R132). -/
def execStyZpX (b1 : Byte) (s : State) : Result := runOperand handleSty (.zeroPageX b1) s

/-- STY `0x8C`, Absolute (R132). -/
def execStyAbs (w : Addr) (s : State) : Result := runOperand handleSty (.absolute w) s

end Sys2Proof.Machine
end

