-- ==== Sys2Proof/Machine/Transfer.lean ====
section
/-!
DEFINITION. Register transfers TAX, TAY, TXA, TYA (`47_transfer.md`, R220 to R223).
Each row of the opcode table has a meaning of its own over the mnemonic's handler; `pc` is the operand pointer on entry (R24).
-/

namespace Sys2Proof.Machine

/-- TAX (R220): copy `A` to `X`, set Z and N. -/
def handleTax (s : State) : State :=
  s.load .x (s.reg .a)

/-- TAX `0xAA`, NoneAddressing (R220). -/
def execTax (s : State) : Result := runImplied handleTax s

/-- TAY (R221): copy `A` to `Y`, set Z and N. -/
def handleTay (s : State) : State :=
  s.load .y (s.reg .a)

/-- TAY `0xA8`, NoneAddressing (R221). -/
def execTay (s : State) : Result := runImplied handleTay s

/-- TXA (R222): copy `X` to `A`, set Z and N. -/
def handleTxa (s : State) : State :=
  s.load .a (s.reg .x)

/-- TXA `0x8A`, NoneAddressing (R222). -/
def execTxa (s : State) : Result := runImplied handleTxa s

/-- TYA (R223): copy `Y` to `A`, set Z and N. -/
def handleTya (s : State) : State :=
  s.load .a (s.reg .y)

/-- TYA `0x98`, NoneAddressing (R223). -/
def execTya (s : State) : Result := runImplied handleTya s

end Sys2Proof.Machine
end

