-- ==== Sys2Proof/Machine/HostOps.lean ====
section
/-!
DEFINITION. What the host does to the machine: the operations of rules R271 to R274 that are not steps, and the host's
move before a step with `HOST = hook` (R258). The host acts only between steps (U17).
-/

namespace Sys2Proof.Machine

/-- `reset()` (R46, R272): memory, `run` and the configuration are unchanged, and so is what the host will do. -/
def hostReset (s : State) : State :=
  { s with
    a := 0
    x := 0
    y := 0
    sp := 0xFD
    p := Flags.ofByte s.cfg.statusReset
    pc := s.mem.readWord 0xFFFC }

/-- `load_program(base, program)` (R52, R271): copies the bytes, or answers `ProgramTooLarge` and copies none. The fault is
the operation's result and leaves the machine, `run` included, untouched (R243, C6). -/
def loadProgram (base : Addr) (program : List Byte) (s : State) : Except Fault State :=
  if base.toNat + program.length > 65536 then .error (.programTooLarge base program.length)
  else .ok { s with mem := s.mem.writeBytes base program }

/-- `run <- running`, with which `run()` and a host's `step()` begin (R274, R275). -/
def startRun (s : State) : State := s.setRun .running

/-- The vector write of `load_and_run` (R273): `MemWrite(0xFFFC, 2, base)`. -/
def setVector (base : Addr) (s : State) : State := { s with mem := s.mem.writeWord 0xFFFC base }

/-- `load_and_run(program)` up to the first step of its `run()` (R273): load, set the vector, reset, start. `base` is
`PROGRAM_BASE`, which has no default (R9; Log 4). -/
def loadAndRun (base : Addr) (program : List Byte) (s : State) : Except Fault State :=
  (loadProgram base program s).map fun t => startRun (hostReset (setVector base t))

/-- The host's writes of one move, in order; it does not write outside `HOST_WRITES` (R258), so a write elsewhere is no part
of a move and is dropped (Log 8). -/
def hostWrite (s : State) : List (Addr × Byte) → State
  | [] => s
  | (a, v) :: rest => hostWrite (if s.cfg.hostWrites.contains a then s.write a v else s) rest

/-- The host's next move (R258): the first of the moves given beforehand; after them, for ever, a free one (U18; Log 8). -/
def nextMove (s : State) : HostMove :=
  match s.hostMoves with
  | m :: _ => m
  | [] => Config.hostMove s.hostTurns s

/-- The host makes the move `m` (R258): its writes, and if it asks for a halt the run ends with `pc` unchanged. -/
def makeMove (m : HostMove) (s : State) : State :=
  let t := hostWrite { s with hostMoves := s.hostMoves.tail, hostTurns := s.hostTurns + 1 } m.writes
  if m.halt then t.halt else t

/-- Stage (0) of R240: with `HOST = hook` the host makes one move before every step; with `HOST = none` nothing happens. -/
def hostTurn (s : State) : State :=
  match s.cfg.host with
  | .none => s
  | .hook => makeMove (nextMove s) s

end Sys2Proof.Machine
end

