-- ==== Sys2Proof/Machine/Fetch.lean ====
section
/-!
DEFINITION. The fetch, look-up and execution of one instruction (R240, stages (1) to (6)), and the placing of an
instruction's bytes where the next step fetches.
-/

namespace Sys2Proof.Machine

/-- Stages (1) to (6) of R240: read the opcode, advance `pc` by 1, look up, run. An absent row raises
`UnrecognizedOpcode` with `pc` already advanced (R243, C1); the fault is recorded in the next state (Log 7). The operand
bytes are read at the operand pointer before the handler runs (R69; Log 10). -/
def cpuStep (s : State) : Result :=
  let opcode := s.read s.pc
  let t := s.advance 1
  match lookup s.cfg.profile opcode with
  | none => .next (t.raise (.unrecognizedOpcode opcode))
  | some r => exec (r.instr (t.read t.pc) (t.read (t.pc + 1))) t

/-- Stage (0), then the CPU's stages unless the host asked for a halt (R240, R245, R258). -/
def fullStep (s : State) : Result :=
  let t := hostTurn s
  match t.run with
  | .running => cpuStep t
  | _ => .next t

/-- The machine's step from any state (R37, R240, R275): a machine that is `idle` is started by its first step; a machine
whose run has ended has no step (Log 6). -/
def runStep (s : State) : Result :=
  match s.run with
  | .idle => fullStep (startRun s)
  | .running => fullStep s
  | .halted => .refused .runEnded
  | .faulted f => .fault f

/-- The instruction's bytes at `pc`, the run started, and, where a host moves first, a move that does nothing put before the
host's next one (Log 5). -/
def placeWord (s : State) (bytes : List Byte) : State :=
  { s with
    mem := s.mem.writeBytes s.pc bytes
    run := .running
    hostMoves := match s.cfg.host with
      | .none => s.hostMoves
      | .hook => ⟨[], false⟩ :: s.hostMoves }

end Sys2Proof.Machine
end

