-- ==== Sys2Proof/Machine/Step.lean ====
section
/-!
DEFINITION. One step (R240), as a host's `step()` makes it (R275); what it is stands in `runStep`.
-/

namespace Sys2Proof.Machine

def step (s : State) : Host.Outcome State Fault Refusal := runStep s

/-- `s` with the instruction whose bits are `w` (numbered as the opcode table numbers them, zero at and above `nbits`)
stored where the next step fetches. -/
def State.withFetchWord (s : State) (nbits w : Nat) : State := placeWord s (tableBytes nbits w)

end Sys2Proof.Machine
end

