-- ==== Sys2Proof/Machine/HostRun.lean ====
section
/-!
DEFINITION. The host's `step()` and `run()` (R274, R275). A run may have no end (R199, R277), so `run` is given as the
state after at most a number of steps.
-/

namespace Sys2Proof.Machine

/-- `step()` (R275): on a machine whose `run` is not `running`, a halted or faulted one included, it begins a new run from
the present `pc` (D16, U16). -/
def hostStep (s : State) : Result := step (startRun s)

/-- The loop of `run()` (R274), at most `k` steps: it stops when `run` is no longer `running`. -/
def runLoop : Nat → State → State
  | 0, s => s
  | k + 1, s =>
    match s.run with
    | .running =>
      match step s with
      | .next t => runLoop k t
      | _ => s
    | _ => s

/-- `run()` (R274), at most `k` steps: it sets `run <- running` and does not reset. -/
def hostRun (k : Nat) (s : State) : State := runLoop k (startRun s)

end Sys2Proof.Machine
end

