-- ==== Sys2Proof/Safety.lean ====
section
/-!
DEFINITION. What a finished run and a safe run are (R37, R241, R277), in the terms claims use.
-/

namespace Sys2Proof

open Sys2Proof.Machine

/-- The run from `s` has ended in `t` (R277): some number of steps reaches `t`, and `t` is halted. A faulted run has not
ended in this sense. -/
def EndsIn (s t : State) : Prop := ∃ k, core.run k s = .next t ∧ t.run = .halted

/-- The run from `s` is in a faulted state after some number of steps (R37, R243). -/
def FaultsWith (s : State) (f : Fault) : Prop := ∃ k t, core.run k s = .next t ∧ t.run = .faulted f

/-- No number of steps from `s` meets a fatal condition (R37: a claim about a program proves this or assumes it). -/
def NeverFaults (s : State) : Prop := ∀ f, ¬ FaultsWith s f

/-- The invariant of a machine, whatever its configuration and its host: memory is in canonical form (Log 9); the four inert
flags are at their bits of `STATUS_RESET` (R29); a recorded fault is `UnrecognizedOpcode` of a byte that the profile's table
lacks (R244); under `CORE` the stack pointer is 0xFD (R27). -/
structure MachineInv (s : State) : Prop where
  memory : s.mem.wf = true
  inertI : s.p.i = s.cfg.statusReset.getLsbD 2
  inertD : s.p.d = s.cfg.statusReset.getLsbD 3
  inertB : s.p.b = s.cfg.statusReset.getLsbD 4
  inertB2 : s.p.b2 = s.cfg.statusReset.getLsbD 5
  faulted : ∀ f, s.run = .faulted f → ∃ code, f = .unrecognizedOpcode code ∧ lookup s.cfg.profile code = none
  coreSP : s.cfg.profile = .core → s.sp = 0xFD

end Sys2Proof
end

