-- ==== Sys2Proof/Certificates/Slice0/Obligations.lean ====
section
/-!
DEFINITION. The statements about the model, file by file of the spec. A statement holds for every state and every
configuration (both profiles, both values of `LOGIC_DEST`, with or without a host) unless it names one. In a state given to
`exec`, `pc` is the operand pointer (R24).

A table row of the form (opcode byte, instruction, operand) lists one row of R101 or R104 for arbitrary operand bytes. A
statement that uses `Runs` or `RunsImplied` says of each listed row: its bytes, its profile, and that `exec` ANSWERS the next
state given, from every state. The next state is written as a record update, so every field not named is unchanged.
The bytes are those of R101 and R104, most of which the spec marks as supplied from general knowledge (Log 16, Log 17).
-/

namespace Sys2Proof

open Sys2Proof.Machine

/-- `setZN(v)` written out (R32): Zero and Negative follow `v`, the other six flags stay. -/
def withZN (p : Flags) (v : Byte) : Flags := { p with z := decide (v = 0), n := v.getLsbD 7 }

/-- Each listed row has the opcode byte and the operand bytes of its operand and belongs to the profile, and from every state
`s` it runs: the handler's effect, then `pc` advanced by `operand_length` (R240). -/
def Runs (p : Profile) (rows : List (Byte × Instr × Operand)) (effect : Operand → State → State) : Prop :=
  ∀ row ∈ rows, encode row.2.1 = row.1 :: row.2.2.bytes ∧ row.2.1.profile = p ∧
    ∀ s, exec row.2.1 s = .next { effect row.2.2 s with pc := s.pc + row.2.2.size }

/-- A one-byte row with no operand: its byte, its profile, and what it does from every state; `pc` stays the operand pointer,
which is the next instruction's address. -/
def RunsImplied (p : Profile) (code : Byte) (i : Instr) (effect : State → State) : Prop :=
  encode i = [code] ∧ i.profile = p ∧ ∀ s, exec i s = .next (effect s)

/-- The rows of LDA (R101). -/
def ldaRows (b1 : Byte) (w : Addr) : List (Byte × Instr × Operand) :=
  [(0xA9, .ldaImm b1, .immediate b1),
   (0xA5, .ldaZp b1, .zeroPage b1),
   (0xB5, .ldaZpX b1, .zeroPageX b1),
   (0xAD, .ldaAbs w, .absolute w),
   (0xBD, .ldaAbsX w, .absoluteX w),
   (0xB9, .ldaAbsY w, .absoluteY w),
   (0xA1, .ldaIndX b1, .indirectX b1),
   (0xB1, .ldaIndY b1, .indirectY b1)]

/-- The rows of LDX (R101). -/
def ldxRows (b1 : Byte) (w : Addr) : List (Byte × Instr × Operand) :=
  [(0xA2, .ldxImm b1, .immediate b1),
   (0xA6, .ldxZp b1, .zeroPage b1),
   (0xB6, .ldxZpY b1, .zeroPageY b1),
   (0xAE, .ldxAbs w, .absolute w),
   (0xBE, .ldxAbsY w, .absoluteY w)]

/-- The rows of LDY (R101). -/
def ldyRows (b1 : Byte) (w : Addr) : List (Byte × Instr × Operand) :=
  [(0xA0, .ldyImm b1, .immediate b1),
   (0xA4, .ldyZp b1, .zeroPage b1),
   (0xB4, .ldyZpX b1, .zeroPageX b1),
   (0xAC, .ldyAbs w, .absolute w),
   (0xBC, .ldyAbsX w, .absoluteX w)]

/-- The rows of STA (R101). -/
def staRows (b1 : Byte) (w : Addr) : List (Byte × Instr × Operand) :=
  [(0x85, .staZp b1, .zeroPage b1),
   (0x95, .staZpX b1, .zeroPageX b1),
   (0x8D, .staAbs w, .absolute w),
   (0x9D, .staAbsX w, .absoluteX w),
   (0x99, .staAbsY w, .absoluteY w),
   (0x81, .staIndX b1, .indirectX b1),
   (0x91, .staIndY b1, .indirectY b1)]

/-- The rows of STX (R104). -/
def stxRows (b1 : Byte) (w : Addr) : List (Byte × Instr × Operand) :=
  [(0x86, .stxZp b1, .zeroPage b1),
   (0x96, .stxZpY b1, .zeroPageY b1),
   (0x8E, .stxAbs w, .absolute w)]

/-- The rows of STY (R104). -/
def styRows (b1 : Byte) (w : Addr) : List (Byte × Instr × Operand) :=
  [(0x84, .styZp b1, .zeroPage b1),
   (0x94, .styZpX b1, .zeroPageX b1),
   (0x8C, .styAbs w, .absolute w)]

/-- The rows of ADC (R101). -/
def adcRows (b1 : Byte) (w : Addr) : List (Byte × Instr × Operand) :=
  [(0x69, .adcImm b1, .immediate b1),
   (0x65, .adcZp b1, .zeroPage b1),
   (0x75, .adcZpX b1, .zeroPageX b1),
   (0x6D, .adcAbs w, .absolute w),
   (0x7D, .adcAbsX w, .absoluteX w),
   (0x79, .adcAbsY w, .absoluteY w),
   (0x61, .adcIndX b1, .indirectX b1),
   (0x71, .adcIndY b1, .indirectY b1)]

/-- The rows of SBC (R101). -/
def sbcRows (b1 : Byte) (w : Addr) : List (Byte × Instr × Operand) :=
  [(0xE9, .sbcImm b1, .immediate b1),
   (0xE5, .sbcZp b1, .zeroPage b1),
   (0xF5, .sbcZpX b1, .zeroPageX b1),
   (0xED, .sbcAbs w, .absolute w),
   (0xFD, .sbcAbsX w, .absoluteX w),
   (0xF9, .sbcAbsY w, .absoluteY w),
   (0xE1, .sbcIndX b1, .indirectX b1),
   (0xF1, .sbcIndY b1, .indirectY b1)]

/-- The rows of INC (R104). -/
def incRows (b1 : Byte) (w : Addr) : List (Byte × Instr × Operand) :=
  [(0xE6, .incZp b1, .zeroPage b1),
   (0xF6, .incZpX b1, .zeroPageX b1),
   (0xEE, .incAbs w, .absolute w),
   (0xFE, .incAbsX w, .absoluteX w)]

/-- The rows of DEC (R104). -/
def decRows (b1 : Byte) (w : Addr) : List (Byte × Instr × Operand) :=
  [(0xC6, .decZp b1, .zeroPage b1),
   (0xD6, .decZpX b1, .zeroPageX b1),
   (0xCE, .decAbs w, .absolute w),
   (0xDE, .decAbsX w, .absoluteX w)]

/-- The rows of CMP (R104). -/
def cmpRows (b1 : Byte) (w : Addr) : List (Byte × Instr × Operand) :=
  [(0xC9, .cmpImm b1, .immediate b1),
   (0xC5, .cmpZp b1, .zeroPage b1),
   (0xD5, .cmpZpX b1, .zeroPageX b1),
   (0xCD, .cmpAbs w, .absolute w),
   (0xDD, .cmpAbsX w, .absoluteX w),
   (0xD9, .cmpAbsY w, .absoluteY w),
   (0xC1, .cmpIndX b1, .indirectX b1),
   (0xD1, .cmpIndY b1, .indirectY b1)]

/-- The rows of CPX (R104). -/
def cpxRows (b1 : Byte) (w : Addr) : List (Byte × Instr × Operand) :=
  [(0xE0, .cpxImm b1, .immediate b1),
   (0xE4, .cpxZp b1, .zeroPage b1),
   (0xEC, .cpxAbs w, .absolute w)]

/-- The rows of CPY (R104). -/
def cpyRows (b1 : Byte) (w : Addr) : List (Byte × Instr × Operand) :=
  [(0xC0, .cpyImm b1, .immediate b1),
   (0xC4, .cpyZp b1, .zeroPage b1),
   (0xCC, .cpyAbs w, .absolute w)]

/-- The rows of AND (R101). -/
def andRows (b1 : Byte) (w : Addr) : List (Byte × Instr × Operand) :=
  [(0x29, .andImm b1, .immediate b1),
   (0x25, .andZp b1, .zeroPage b1),
   (0x35, .andZpX b1, .zeroPageX b1),
   (0x2D, .andAbs w, .absolute w),
   (0x3D, .andAbsX w, .absoluteX w),
   (0x39, .andAbsY w, .absoluteY w),
   (0x21, .andIndX b1, .indirectX b1),
   (0x31, .andIndY b1, .indirectY b1)]

/-- The rows of ORA (R101). -/
def oraRows (b1 : Byte) (w : Addr) : List (Byte × Instr × Operand) :=
  [(0x09, .oraImm b1, .immediate b1),
   (0x05, .oraZp b1, .zeroPage b1),
   (0x15, .oraZpX b1, .zeroPageX b1),
   (0x0D, .oraAbs w, .absolute w),
   (0x1D, .oraAbsX w, .absoluteX w),
   (0x19, .oraAbsY w, .absoluteY w),
   (0x01, .oraIndX b1, .indirectX b1),
   (0x11, .oraIndY b1, .indirectY b1)]

/-- The rows of EOR (R101). -/
def eorRows (b1 : Byte) (w : Addr) : List (Byte × Instr × Operand) :=
  [(0x49, .eorImm b1, .immediate b1),
   (0x45, .eorZp b1, .zeroPage b1),
   (0x55, .eorZpX b1, .zeroPageX b1),
   (0x4D, .eorAbs w, .absolute w),
   (0x5D, .eorAbsX w, .absoluteX w),
   (0x59, .eorAbsY w, .absoluteY w),
   (0x41, .eorIndX b1, .indirectX b1),
   (0x51, .eorIndY b1, .indirectY b1)]

/-- The rows of BIT (R104). -/
def bitRows (b1 : Byte) (w : Addr) : List (Byte × Instr × Operand) :=
  [(0x24, .bitZp b1, .zeroPage b1),
   (0x2C, .bitAbs w, .absolute w)]

/-- The rows of ASL (R101). -/
def aslRows (b1 : Byte) (w : Addr) : List (Byte × Instr × Operand) :=
  [(0x06, .aslZp b1, .zeroPage b1),
   (0x16, .aslZpX b1, .zeroPageX b1),
   (0x0E, .aslAbs w, .absolute w),
   (0x1E, .aslAbsX w, .absoluteX w)]

/-- The rows of LSR (R104). -/
def lsrRows (b1 : Byte) (w : Addr) : List (Byte × Instr × Operand) :=
  [(0x46, .lsrZp b1, .zeroPage b1),
   (0x56, .lsrZpX b1, .zeroPageX b1),
   (0x4E, .lsrAbs w, .absolute w),
   (0x5E, .lsrAbsX w, .absoluteX w)]

/-- The rows of ROL (R104). -/
def rolRows (b1 : Byte) (w : Addr) : List (Byte × Instr × Operand) :=
  [(0x26, .rolZp b1, .zeroPage b1),
   (0x36, .rolZpX b1, .zeroPageX b1),
   (0x2E, .rolAbs w, .absolute w),
   (0x3E, .rolAbsX w, .absoluteX w)]

/-- The rows of ROR (R104). -/
def rorRows (b1 : Byte) (w : Addr) : List (Byte × Instr × Operand) :=
  [(0x66, .rorZp b1, .zeroPage b1),
   (0x76, .rorZpX b1, .zeroPageX b1),
   (0x6E, .rorAbs w, .absolute w),
   (0x7E, .rorAbsX w, .absoluteX w)]

end Sys2Proof

open Sys2Proof Sys2Proof.Machine

/-- The opcode table has 144 rows with distinct bytes, 73 of them CORE -/
def Obligations.OpcodeBytesAreUnique : Prop :=
  (opcodeTable.map (·.code)).Nodup ∧ opcodeTable.length = 144 ∧
    (opcodeTable.filter (·.profile = .core)).length = 73 ∧ (opcodeTable.filter (·.profile = .extended)).length = 71

/-- Look-up is total on bytes and finds the one row of the byte that the profile has -/
def Obligations.LookupFindsExactlyTheRowOfTheByte : Prop :=
  ∀ (p : Profile) (c : Byte) (r : OpCode),
    lookup p c = some r ↔ r ∈ opcodeTable ∧ r.code = c ∧ p.includes r.profile = true

/-- 183 bytes are illegal under CORE and 112 under EXTENDED -/
def Obligations.IllegalBytesAreCounted : Prop :=
  ((List.range 256).filter fun k => (lookup .core (BitVec.ofNat 8 k)).isNone).length = 183 ∧
    ((List.range 256).filter fun k => (lookup .extended (BitVec.ofNat 8 k)).isNone).length = 112 ∧
    ∀ p c rest, (lookup p c).isNone → decode p (c :: rest) = .error (.unrecognizedOpcode c)

/-- SEI, CLI, SED, CLD, PHP, PLP and RTI have no row in either profile. That they are absent is the spec's decision D20. -/
def Obligations.ExcludedInstructionsHaveNoRow : Prop :=
  ∀ p, ∀ c ∈ [(0x78 : Byte), 0x58, 0xF8, 0xD8, 0x08, 0x28, 0x40], (lookup p c).isNone

/-- Every row has the length its addressing mode gives it -/
def Obligations.RowLengthFollowsTheMode : Prop :=
  ∀ r ∈ opcodeTable, r.operandLength + 1 = r.length ∧ r.length =
    match r.mode with
    | .immediate | .zeroPage | .zeroPageX | .zeroPageY | .indirectX | .indirectY => 2
    | .absolute | .absoluteX | .absoluteY => 3
    | .noneAddressing =>
      if r.mnemonic ∈ ["BPL", "BMI", "BVC", "BVS", "BCC", "BCS", "BNE", "BEQ"] then 2
      else if r.mnemonic ∈ ["JMP", "JSR"] then 3 else 1

/-- The six encodings the source gives, and one word of each further family, decode as the spec reads them -/
def Obligations.SourceWordsDecode : Prop :=
  decode .core [0xA9, 0x05, 0x00] = .ok (.ldaImm 0x05, [0x00]) ∧
  decode .core [0x85, 0xFF, 0x00] = .ok (.staZp 0xFF, [0x00]) ∧
  decode .core [0xAA, 0x9D] = .ok (.tax, [0x9D]) ∧
  decode .core [0x9D, 0x00, 0xFF, 0x00] = .ok (.staAbsX 0xFF00, [0x00]) ∧
  decode .core [0xE8] = .ok (.inx, []) ∧
  decode .core [0x00] = .ok (.brk, []) ∧
  decode .core [0x71, 0x40] = .ok (.adcIndY 0x40, []) ∧
  decode .core [0x41, 0x20] = .ok (.eorIndX 0x20, []) ∧
  decode .core [0x1E, 0xFF, 0x02] = .ok (.aslAbsX 0x02FF, []) ∧
  decode .extended [0xD0, 0xF9] = .ok (.bne 0xF9, []) ∧
  decode .extended [0x6C, 0xFF, 0x02] = .ok (.jmpInd 0x02FF, []) ∧
  decode .extended [0x48] = .ok (.pha, []) ∧
  decode .extended [0x18, 0xEA] = .ok (.clc, [0xEA])

/-- Decoding the encoding of a well-formed instruction gives it back -/
def Obligations.DecodeOfEncodeIsTheInstruction : Prop :=
  ∀ (p : Profile) (i : Instr) (rest : List Byte),
    WellFormed p i = true → decode p (encode i ++ rest) = .ok (i, rest)

/-- Bytes that decode are the encoding of what they decode to, and each instruction has one encoding -/
def Obligations.EncodeOfDecodeIsTheBytes : Prop :=
  ∀ (p : Profile) (bytes : List Byte) (i : Instr) (rest : List Byte),
    decode p bytes = .ok (i, rest) → WellFormed p i = true ∧ bytes = encode i ++ rest

/-- A constructed machine has the state R45 gives. The values of SP and pc are the spec's decision D6 (Log 12). -/
def Obligations.ConstructionState : Prop :=
  ∀ cfg : Config, let s := State.new cfg
    s.a = 0 ∧ s.x = 0 ∧ s.y = 0 ∧ s.pc = 0 ∧ s.sp = 0xFD ∧ s.p = Flags.ofByte cfg.statusReset ∧
      (∀ k, s.read k = 0) ∧ s.run = .idle

/-- reset() restores the registers and loads pc from the vector, and leaves memory and run. That reset leaves memory and run is the spec's decisions D16 and D17 (Log 20). -/
def Obligations.ResetOperation : Prop :=
  ∀ s : State, let t := hostReset s
    t.a = 0 ∧ t.x = 0 ∧ t.y = 0 ∧ t.sp = 0xFD ∧ t.p = Flags.ofByte s.cfg.statusReset ∧
      t.pc = pair (s.read 0xFFFD) (s.read 0xFFFC) ∧ (∀ k, t.read k = s.read k) ∧ t.run = s.run

/-- State.reset is reset() of a constructed machine. That its profile is EXTENDED is the model's choice (Log 2), that the other parameters have the spec's defaults is Log 3. -/
def Obligations.ResetStateIsAConstructedMachineReset : Prop :=
  State.reset = hostReset (State.new { Config.specDefault with profile := .extended }) ∧ State.reset.pc = 0x0000 ∧
    State.reset.p.toByte = 0x24 ∧ State.reset.sp = 0xFD ∧ State.reset.run = .idle

/-- The status byte holds the flags at the bits R30 gives, and shows the same byte again. The layout and the default 0x24 are the spec's decision D5 (Log 3). -/
def Obligations.StatusByteLayout : Prop :=
  (∀ b : Byte, (Flags.ofByte b).toByte = b ∧ Flags.ofByte b =
    { c := b.getLsbD 0, z := b.getLsbD 1, i := b.getLsbD 2, d := b.getLsbD 3, b := b.getLsbD 4, b2 := b.getLsbD 5,
      v := b.getLsbD 6, n := b.getLsbD 7 }) ∧
  Config.specDefault.statusReset = 0x24 ∧
  Flags.ofByte 0x24 =
    { c := false, z := false, i := true, d := false, b := false, b2 := true, v := false, n := false }

/-- A word written and read back is the word, at every address, 0xFFFF included. At 0xFFFF this is the spec's decision D7 (Log 13). -/
def Obligations.WordRoundTripAtEveryAddress : Prop :=
  ∀ (m : Memory) (a w : Addr), let m' := m.writeWord a w
    m'.readWord a = w ∧ m'.readWord a = pair (m'.read (a + 1)) (m'.read a) ∧
      m'.read a = loByte w ∧ m'.read (a + 1) = hiByte w ∧ ∀ k, k ≠ a → k ≠ a + 1 → m'.read k = m.read k

/-- A zero-page pointer takes its high byte from p +8 1, inside the zero page -/
def Obligations.ZeroPagePointerWrapsInThePage : Prop :=
  ∀ (m : Memory) (p : Byte), m.zpWord p = pair (m.read (zext16 (p + 1))) (m.read (zext16 p)) ∧
    (zext16 (p + 1)).toNat < 256 ∧ m.zpWord 0xFF = pair (m.read 0x0000) (m.read 0x00FF)

/-- load_program copies the bytes when they fit and otherwise answers ProgramTooLarge. That a failed load writes nothing is the spec's decision D18 (Log 18). -/
def Obligations.LoadProgramCopiesOrRefuses : Prop :=
  ∀ (base : Addr) (prog : List Byte) (s : State),
    (base.toNat + prog.length > 65536 → loadProgram base prog s = .error (.programTooLarge base prog.length)) ∧
    (base.toNat + prog.length ≤ 65536 → ∃ t, loadProgram base prog s = .ok t ∧ { t with mem := s.mem } = s ∧
      (∀ i v, prog[i]? = some v → t.read (base + BitVec.ofNat 16 i) = v) ∧
      ∀ k : Addr, (k.toNat < base.toNat ∨ base.toNat + prog.length ≤ k.toNat) → t.read k = s.read k)

/-- load_and_run loads, sets the vector, resets and starts, in that order. That PROGRAM_BASE is an argument is the model's choice (Log 4). -/
def Obligations.LoadAndRunBeginsAtTheBase : Prop :=
  ∀ (base : Addr) (prog : List Byte) (s : State),
    (base.toNat + prog.length > 65536 → loadAndRun base prog s = .error (.programTooLarge base prog.length)) ∧
    (base.toNat + prog.length ≤ 65536 → ∃ t, loadAndRun base prog s = .ok t ∧ t.pc = base ∧ t.a = 0 ∧ t.x = 0 ∧
      t.y = 0 ∧ t.sp = 0xFD ∧ t.p = Flags.ofByte s.cfg.statusReset ∧ t.run = .running ∧
      t.read 0xFFFC = loByte base ∧ t.read 0xFFFD = hiByte base ∧
      (∀ i v, prog[i]? = some v → base + BitVec.ofNat 16 i ≠ 0xFFFC → base + BitVec.ofNat 16 i ≠ 0xFFFD →
        t.read (base + BitVec.ofNat 16 i) = v) ∧
      ∀ k : Addr, (k.toNat < base.toNat ∨ base.toNat + prog.length ≤ k.toNat) → k ≠ 0xFFFC → k ≠ 0xFFFD →
        t.read k = s.read k)

/-- Each addressing mode computes the address R91 to R98 give -/
def Obligations.EffectiveAddressOfEachMode : Prop :=
  ∀ (s : State) (b1 b2 : Byte),
    (Operand.zeroPage b1).ea s = zext16 b1 ∧
    (Operand.zeroPageX b1).ea s = zext16 (b1 + s.x) ∧
    (Operand.zeroPageY b1).ea s = zext16 (b1 + s.y) ∧
    (Operand.absolute (pair b2 b1)).ea s = pair b2 b1 ∧
    (Operand.absoluteX (pair b2 b1)).ea s = pair b2 b1 + zext16 s.x ∧
    (Operand.absoluteY (pair b2 b1)).ea s = pair b2 b1 + zext16 s.y ∧
    (Operand.indirectX b1).ea s = pair (s.read (zext16 (b1 + s.x + 1))) (s.read (zext16 (b1 + s.x))) ∧
    (Operand.indirectY b1).ea s = pair (s.read (zext16 (b1 + 1))) (s.read (zext16 b1)) + zext16 s.y ∧
    (∀ o : Operand, o ≠ .immediate b1 → o.mode ≠ .immediate → o.value s = s.read (o.ea s)) ∧
    (∀ b : Byte, (pair b2 b).toNat = b2.toNat * 256 + b.toNat ∧ (zext16 b).toNat = b.toNat)

/-- The resolver, reading memory at the operand pointer, gives the address of the decoded operand. That the decoded instruction carries its operand bytes is the model's deduction (Log 10). -/
def Obligations.ResolverAgreesWithTheDecodedOperand : Prop :=
  ∀ (o : Operand) (s : State), (∀ i v, o.bytes[i]? = some v → s.read (s.pc + BitVec.ofNat 16 i) = v) →
    operandAt o.mode s = .ok o ∧ resolve o.mode s = .ok (o.ea s) ∧ s.read (o.ea s) = o.value s ∧
      (o.mode = .immediate → o.ea s = s.pc)

/-- The resolver raises InvalidAddressingMode for NoneAddressing and for no other mode -/
def Obligations.ResolverRejectsNoneAddressing : Prop :=
  ∀ s : State, resolve .noneAddressing s = .error (.invalidAddressingMode .noneAddressing) ∧
    ∀ mode, mode ≠ .noneAddressing → ∃ k, resolve mode s = .ok k

/-- A raise sets run to faulted and everything assigned before it stands -/
def Obligations.RaiseChangesOnlyTheRunState : Prop :=
  ∀ (s : State) (f : Fault), (s.raise f).run = .faulted f ∧ { s.raise f with run := s.run } = s

/-- LDA loads A and sets Zero and Negative -/
def Obligations.LdaLoadsA : Prop :=
  ∀ b1 w, Runs .core (ldaRows b1 w) fun o s => { s with a := o.value s, p := withZN s.p (o.value s) }

/-- LDX loads X and LDY loads Y, and they set Zero and Negative -/
def Obligations.LdxAndLdyLoadTheirRegister : Prop :=
  ∀ b1 w,
    (Runs .core (ldxRows b1 w) fun o s => { s with x := o.value s, p := withZN s.p (o.value s) }) ∧
    (Runs .core (ldyRows b1 w) fun o s => { s with y := o.value s, p := withZN s.p (o.value s) })

/-- STA, STX and STY write their register at the effective address and nothing else -/
def Obligations.StoresWriteTheirRegister : Prop :=
  ∀ b1 w,
    (Runs .core (staRows b1 w) fun o s => { s with mem := s.mem.write (o.ea s) s.a }) ∧
    (Runs .extended (stxRows b1 w) fun o s => { s with mem := s.mem.write (o.ea s) s.x }) ∧
    (Runs .extended (styRows b1 w) fun o s => { s with mem := s.mem.write (o.ea s) s.y })

/-- ADC adds the operand and Carry to A and assigns C, V, Z and N. That C and V are cleared when their condition is false is the spec's decision D14 (Log 19). -/
def Obligations.AdcAddsWithCarry : Prop :=
  ∀ b1 w, Runs .core (adcRows b1 w) fun o s =>
    let m := o.value s
    let sum := s.a.toNat + m.toNat + (if s.p.c then 1 else 0)
    let r := BitVec.ofNat 8 sum
    { s with a := r, p := { withZN s.p r with c := decide (sum > 255),
                                              v := decide ((m ^^^ r) &&& (r ^^^ s.a) &&& 0x80 ≠ 0) } }

/-- SBC is the add path with the operand inverted. That C and V are cleared when their condition is false is the spec's decision D14 (Log 19). -/
def Obligations.SbcSubtractsWithBorrow : Prop :=
  ∀ b1 w, Runs .core (sbcRows b1 w) fun o s =>
    let m := ~~~(o.value s)
    let sum := s.a.toNat + m.toNat + (if s.p.c then 1 else 0)
    let r := BitVec.ofNat 8 sum
    { s with a := r, p := { withZN s.p r with c := decide (sum > 255),
                                              v := decide ((m ^^^ r) &&& (r ^^^ s.a) &&& 0x80 ≠ 0) } }

/-- Carry as an integer. -/
def Sys2Proof.carryInt (s : State) : Int := if s.p.c then 1 else 0

/-- What R153 says of an ADC (`sub = false`) or SBC (`sub = true`) of the operand `m` that took `s` to `t`. -/
def Sys2Proof.ArithmeticLaw (sub : Bool) (s t : State) (m : Byte) : Prop :=
  let c := carryInt s
  let exact : Int := if sub then s.a.toNat - m.toNat - (1 - c) else s.a.toNat + m.toNat + c
  let signed : Int := if sub then s.a.toInt - m.toInt - (1 - c) else s.a.toInt + m.toInt + c
  (t.a.toNat : Int) = exact % 256 ∧
    (t.p.c = true ↔ if sub then 0 ≤ exact else 1 ≤ exact / 256) ∧
    (t.p.v = true ↔ signed < -128 ∨ 127 < signed)

/-- ADC and SBC are integer addition and subtraction, Carry the carry or no-borrow, Overflow the signed range. The spec marks R153 as derived from R140 and R141. -/
def Obligations.AdcAndSbcObeyTheIntegerLaws : Prop :=
  ∀ b1 w (s : State),
    (∀ row ∈ adcRows b1 w, ∃ t, exec row.2.1 s = .next t ∧ ArithmeticLaw false s t (row.2.2.value s)) ∧
    (∀ row ∈ sbcRows b1 w, ∃ t, exec row.2.1 s = .next t ∧ ArithmeticLaw true s t (row.2.2.value s)) ∧
    (∀ b1' w', ∀ row ∈ adcRows b1 w, ∀ row' ∈ sbcRows b1' w', row.2.2.value s = ~~~(row'.2.2.value s) →
      ∃ t t', exec row.2.1 s = .next t ∧ exec row'.2.1 s = .next t' ∧ t.a = t'.a ∧ t.p = t'.p)

/-- ADC and SBC do not read DecimalMode -/
def Obligations.ArithmeticIgnoresDecimalMode : Prop :=
  ∀ b1 w (s : State) (d : Bool), ∀ row ∈ adcRows b1 w ++ sbcRows b1 w,
    ∃ t, exec row.2.1 s = .next t ∧ t.p.d = s.p.d ∧
      exec row.2.1 { s with p := { s.p with d := d } } = .next { t with p := { t.p with d := d } }

/-- INX, INY, DEX and DEY step their register by one modulo 256 and set Zero and Negative -/
def Obligations.RegisterIncrementsAndDecrements : Prop :=
  (RunsImplied .core 0xE8 .inx fun s => { s with x := s.x + 1, p := withZN s.p (s.x + 1) }) ∧
  (RunsImplied .core 0xC8 .iny fun s => { s with y := s.y + 1, p := withZN s.p (s.y + 1) }) ∧
  (RunsImplied .extended 0xCA .dex fun s => { s with x := s.x - 1, p := withZN s.p (s.x - 1) }) ∧
  (RunsImplied .extended 0x88 .dey fun s => { s with y := s.y - 1, p := withZN s.p (s.y - 1) })

/-- INC and DEC step the byte at the effective address by one and set Zero and Negative -/
def Obligations.MemoryIncrementsAndDecrements : Prop :=
  ∀ b1 w,
    (Runs .extended (incRows b1 w) fun o s =>
      { s with mem := s.mem.write (o.ea s) (s.read (o.ea s) + 1), p := withZN s.p (s.read (o.ea s) + 1) }) ∧
    (Runs .extended (decRows b1 w) fun o s =>
      { s with mem := s.mem.write (o.ea s) (s.read (o.ea s) - 1), p := withZN s.p (s.read (o.ea s) - 1) })

/-- CMP, CPX and CPY set Carry by unsigned comparison, Zero by equality, Negative by the difference -/
def Obligations.ComparesSetFlagsOnly : Prop :=
  ∀ b1 w,
    let compared (s : State) (r m : Byte) : State :=
      { s with p := { s.p with c := decide (m.toNat ≤ r.toNat), z := decide (r = m), n := (r - m).getLsbD 7 } }
    (Runs .extended (cmpRows b1 w) fun o s => compared s s.a (o.value s)) ∧
    (Runs .extended (cpxRows b1 w) fun o s => compared s s.x (o.value s)) ∧
    (Runs .extended (cpyRows b1 w) fun o s => compared s s.y (o.value s))

/-- AND, ORA and EOR write x[LOGIC_DEST], X by default, and set Zero and Negative. The parameter and its default X are the spec's decision D3. -/
def Obligations.LogicalResultsGoToLogicDest : Prop :=
  ∀ b1 w,
    let put (s : State) (r : Byte) : State :=
      match s.cfg.logicDest with
      | .x => { s with x := r, p := withZN s.p r }
      | .a => { s with a := r, p := withZN s.p r }
    (Runs .core (andRows b1 w) fun o s => put s (s.a &&& o.value s)) ∧
    (Runs .core (oraRows b1 w) fun o s => put s (s.a ||| o.value s)) ∧
    (Runs .core (eorRows b1 w) fun o s => put s (s.a ^^^ o.value s)) ∧ Config.specDefault.logicDest = .x

/-- BIT sets Zero from the AND and copies bits 7 and 6 of memory to Negative and Overflow -/
def Obligations.BitTestsMemory : Prop :=
  ∀ b1 w, Runs .extended (bitRows b1 w) fun o s =>
    let m := o.value s
    { s with p := { s.p with z := decide (s.a &&& m = 0), n := m.getLsbD 7, v := m.getLsbD 6 } }

/-- A memory byte replaced by `r`, with Carry `c` and Zero and Negative from `r` (the shifts, R170 to R177). -/
def Sys2Proof.shiftedMem (s : State) (k : Addr) (c : Bool) (r : Byte) : State :=
  { s with mem := s.mem.write k r, p := { withZN s.p r with c := c } }

/-- `A` replaced by `r`, with Carry `c` and Zero and Negative from `r`. -/
def Sys2Proof.shiftedA (s : State) (c : Bool) (r : Byte) : State :=
  { s with a := r, p := { withZN s.p r with c := c } }

/-- ASL and LSR shift a memory byte or A by one, the bit shifted out going to Carry. That Carry is cleared by a 0 shifted out is the spec's decision D14 (Log 19). -/
def Obligations.ShiftsByOne : Prop :=
  ∀ b1 w,
    (Runs .core (aslRows b1 w) fun o s =>
      shiftedMem s (o.ea s) ((s.read (o.ea s)).getLsbD 7) (s.read (o.ea s) <<< 1)) ∧
    (Runs .extended (lsrRows b1 w) fun o s =>
      shiftedMem s (o.ea s) ((s.read (o.ea s)).getLsbD 0) (s.read (o.ea s) >>> 1)) ∧
    (RunsImplied .extended 0x0A .aslA fun s => shiftedA s (s.a.getLsbD 7) (s.a <<< 1)) ∧
    (RunsImplied .extended 0x4A .lsrA fun s => shiftedA s (s.a.getLsbD 0) (s.a >>> 1))

/-- ROL and ROR rotate a memory byte or A by one through Carry -/
def Obligations.RotatesThroughCarry : Prop :=
  ∀ b1 w,
    (Runs .extended (rolRows b1 w) fun o s => let m := s.read (o.ea s)
      shiftedMem s (o.ea s) (m.getLsbD 7) (m <<< 1 ||| (if s.p.c then 0x01 else 0x00))) ∧
    (Runs .extended (rorRows b1 w) fun o s => let m := s.read (o.ea s)
      shiftedMem s (o.ea s) (m.getLsbD 0) (m >>> 1 ||| (if s.p.c then 0x80 else 0x00))) ∧
    (RunsImplied .extended 0x2A .rolA fun s =>
      shiftedA s (s.a.getLsbD 7) (s.a <<< 1 ||| (if s.p.c then 0x01 else 0x00))) ∧
    (RunsImplied .extended 0x6A .rorA fun s =>
      shiftedA s (s.a.getLsbD 0) (s.a >>> 1 ||| (if s.p.c then 0x80 else 0x00)))

/-- The same instruction executed `n` times, one after another, if each time it answers a next state. -/
def Sys2Proof.execTimes (i : Instr) : Nat → State → Option State
  | 0, s => some s
  | n + 1, s =>
    match exec i s with
    | .next t => execTimes i n t
    | _ => none

/-- Nine ROLs restore the byte and Carry, and so do nine RORs -/
def Obligations.NineRotatesRestore : Prop :=
  (∀ i ∈ [Instr.rolA, .rorA], ∀ s, ∃ t, execTimes i 9 s = some t ∧ t.a = s.a ∧ t.p.c = s.p.c) ∧
  (∀ b1 w, ∀ row ∈ rolRows b1 w ++ rorRows b1 w, ∀ s, ∃ t, execTimes row.2.1 9 s = some t ∧ t.p.c = s.p.c ∧
    ∀ k, t.read k = s.read k)

/-- BRK sets run to halted and changes nothing else. That BRK changes nothing else is the spec's decision D9 (Log 19). -/
def Obligations.BrkEndsTheRun : Prop :=
  (RunsImplied .core 0x00 .brk fun s => { s with run := .halted }) ∧
  ∀ s : State, s.run = .running → let u := hostTurn s
    u.run = .running → u.read u.pc = 0x00 → step s = .next { u with pc := u.pc + 1, run := .halted }

/-- A branch row: its byte, `EXTENDED`, and from every state the next `pc`, nothing else changing. -/
def Sys2Proof.BranchRuns (code : Byte) (i : Byte → Instr) (taken : State → Bool) : Prop :=
  ∀ b1, encode (i b1) = [code, b1] ∧ (i b1).profile = .extended ∧ ∀ s, exec (i b1) s =
    .next { s with pc := if taken s then s.pc + 1 + BitVec.ofInt 16 b1.toInt else s.pc + 1 }

/-- Each branch, taken on its flag, goes to the next instruction plus the signed offset -/
def Obligations.BranchesGoToTheSignedOffset : Prop :=
  BranchRuns 0x10 .bpl (fun s => !s.p.n) ∧ BranchRuns 0x30 .bmi (fun s => s.p.n) ∧
  BranchRuns 0x50 .bvc (fun s => !s.p.v) ∧ BranchRuns 0x70 .bvs (fun s => s.p.v) ∧
  BranchRuns 0x90 .bcc (fun s => !s.p.c) ∧ BranchRuns 0xB0 .bcs (fun s => s.p.c) ∧
  BranchRuns 0xD0 .bne (fun s => !s.p.z) ∧ BranchRuns 0xF0 .beq (fun s => s.p.z)

/-- JMP goes to its operand; JMP indirect to the pointer's word, read inside one page. The high byte from the same page is the spec's decision D15 (Log 16). -/
def Obligations.JumpsGoToTheirTarget : Prop :=
  (∀ w, encode (.jmpAbs w) = [0x4C, loByte w, hiByte w] ∧ (Instr.jmpAbs w).profile = .extended ∧
    ∀ s, exec (.jmpAbs w) s = .next { s with pc := w }) ∧
  (∀ w, encode (.jmpInd w) = [0x6C, loByte w, hiByte w] ∧ (Instr.jmpInd w).profile = .extended ∧
    ∀ s, exec (.jmpInd w) s =
      .next { s with pc := pair (s.read (pair (hiByte w) (loByte w + 1))) (s.read w) })

/-- JSR pushes the address of its last byte, high byte first, and jumps -/
def Obligations.JsrPushesItsLastByteAddress : Prop :=
  ∀ w, encode (.jsr w) = [0x20, loByte w, hiByte w] ∧ (Instr.jsr w).profile = .extended ∧
    ∀ s, exec (.jsr w) s = .next { s with
      mem := (s.mem.write (0x0100 + zext16 s.sp) (hiByte (s.pc + 1))).write (0x0100 + zext16 (s.sp - 1))
        (loByte (s.pc + 1))
      sp := s.sp - 2
      pc := w }

/-- RTS pops the return address and goes to it plus one -/
def Obligations.RtsReturnsToThePoppedWord : Prop :=
  RunsImplied .extended 0x60 .rts fun s => { s with
    sp := s.sp + 2
    pc := pair (s.read (0x0100 + zext16 (s.sp + 2))) (s.read (0x0100 + zext16 (s.sp + 1))) + 1 }

/-- RTS after JSR returns to the instruction after the JSR with SP restored, for every SP -/
def Obligations.RtsAfterJsrReturnsBehindTheCall : Prop :=
  ∀ (w : Addr) (s : State), ∃ t u, exec (.jsr w) s = .next t ∧ t.pc = w ∧
    exec .rts { t with pc := t.pc + 1 } = .next u ∧ u.pc = s.pc + 2 ∧ u.sp = s.sp ∧ u.a = s.a ∧ u.x = s.x ∧
      u.y = s.y ∧ u.p = s.p

/-- push writes then decrements, pop increments then reads, in page 0x0100 with silent wrap -/
def Obligations.StackPrimitives : Prop :=
  ∀ (s : State) (v : Byte) (w : Addr),
    s.push v = { s with mem := s.mem.write (0x0100 + zext16 s.sp) v, sp := s.sp - 1 } ∧
    s.pop = (s.read (0x0100 + zext16 (s.sp + 1)), { s with sp := s.sp + 1 }) ∧
    s.push16 w = (s.push (hiByte w)).push (loByte w) ∧
    s.pop16 = (pair s.pop.2.pop.1 s.pop.1, s.pop.2.pop.2)

/-- The bytes pushed in order. -/
def Sys2Proof.pushAll : List Byte → State → State
  | [], s => s
  | b :: bs, s => pushAll bs (s.push b)

/-- The bytes that `n` pops return, in order, and the state after them. -/
def Sys2Proof.popMany : Nat → State → List Byte × State
  | 0, s => ([], s)
  | n + 1, s => (s.pop.1 :: (popMany n s.pop.2).1, (popMany n s.pop.2).2)

/-- Up to 256 bytes pushed are popped in reverse order, and SP returns -/
def Obligations.PopsReturnPushesInReverse : Prop :=
  ∀ (bs : List Byte) (s : State), bs.length ≤ 256 →
    (popMany bs.length (pushAll bs s)).1 = bs.reverse ∧
    (popMany bs.length (pushAll bs s)).2 = { pushAll bs s with sp := s.sp }

/-- pop16 after push16 returns the word, for every word and every SP -/
def Obligations.PopWordReturnsPushedWord : Prop :=
  ∀ (s : State) (w : Addr), (s.push16 w).pop16.1 = w ∧ (s.push16 w).pop16.2 = { s.push16 w with sp := s.sp } ∧
    (s.push16 w).read (0x0100 + zext16 s.sp) = hiByte w ∧
    (s.push16 w).read (0x0100 + zext16 (s.sp - 1)) = loByte w

/-- PHA, PLA, TXS and TSX move A or X to and from the stack -/
def Obligations.StackInstructions : Prop :=
  (RunsImplied .extended 0x48 .pha fun s =>
    { s with mem := s.mem.write (0x0100 + zext16 s.sp) s.a, sp := s.sp - 1 }) ∧
  (RunsImplied .extended 0x68 .pla fun s => let v := s.read (0x0100 + zext16 (s.sp + 1))
    { s with a := v, sp := s.sp + 1, p := withZN s.p v }) ∧
  (RunsImplied .extended 0x9A .txs fun s => { s with sp := s.x }) ∧
  (RunsImplied .extended 0xBA .tsx fun s => { s with x := s.sp, p := withZN s.p s.sp })

/-- TAX, TAY, TXA and TYA copy a register and set Zero and Negative -/
def Obligations.TransfersCopyAndSetFlags : Prop :=
  (RunsImplied .core 0xAA .tax fun s => { s with x := s.a, p := withZN s.p s.a }) ∧
  (RunsImplied .extended 0xA8 .tay fun s => { s with y := s.a, p := withZN s.p s.a }) ∧
  (RunsImplied .extended 0x8A .txa fun s => { s with a := s.x, p := withZN s.p s.x }) ∧
  (RunsImplied .extended 0x98 .tya fun s => { s with a := s.y, p := withZN s.p s.y })

/-- CLC, SEC and CLV write their one flag; NOP changes nothing -/
def Obligations.FlagInstructionsAndNop : Prop :=
  (RunsImplied .extended 0x18 .clc fun s => { s with p := { s.p with c := false } }) ∧
  (RunsImplied .extended 0x38 .sec fun s => { s with p := { s.p with c := true } }) ∧
  (RunsImplied .extended 0xB8 .clv fun s => { s with p := { s.p with v := false } }) ∧
  (RunsImplied .extended 0xEA .nop fun s => s)

/-- What an instruction stores, from the state its handler starts in: (address, byte) pairs in order. The address is the one its
meaning uses. -/
def Sys2Proof.stores (i : Instr) (s : State) : List (Addr × Byte) :=
  match i with
  | .staZp b1 => [((Operand.zeroPage b1).ea s, s.a)]
  | .staZpX b1 => [((Operand.zeroPageX b1).ea s, s.a)]
  | .staAbs w => [((Operand.absolute w).ea s, s.a)]
  | .staAbsX w => [((Operand.absoluteX w).ea s, s.a)]
  | .staAbsY w => [((Operand.absoluteY w).ea s, s.a)]
  | .staIndX b1 => [((Operand.indirectX b1).ea s, s.a)]
  | .staIndY b1 => [((Operand.indirectY b1).ea s, s.a)]
  | .stxZp b1 => [((Operand.zeroPage b1).ea s, s.x)]
  | .stxZpY b1 => [((Operand.zeroPageY b1).ea s, s.x)]
  | .stxAbs w => [((Operand.absolute w).ea s, s.x)]
  | .styZp b1 => [((Operand.zeroPage b1).ea s, s.y)]
  | .styZpX b1 => [((Operand.zeroPageX b1).ea s, s.y)]
  | .styAbs w => [((Operand.absolute w).ea s, s.y)]
  | .incZp b1 => let k := (Operand.zeroPage b1).ea s
    [(k, s.read k + 1)]
  | .incZpX b1 => let k := (Operand.zeroPageX b1).ea s
    [(k, s.read k + 1)]
  | .incAbs w => let k := (Operand.absolute w).ea s
    [(k, s.read k + 1)]
  | .incAbsX w => let k := (Operand.absoluteX w).ea s
    [(k, s.read k + 1)]
  | .decZp b1 => let k := (Operand.zeroPage b1).ea s
    [(k, s.read k - 1)]
  | .decZpX b1 => let k := (Operand.zeroPageX b1).ea s
    [(k, s.read k - 1)]
  | .decAbs w => let k := (Operand.absolute w).ea s
    [(k, s.read k - 1)]
  | .decAbsX w => let k := (Operand.absoluteX w).ea s
    [(k, s.read k - 1)]
  | .aslZp b1 => let k := (Operand.zeroPage b1).ea s
    [(k, s.read k <<< 1)]
  | .aslZpX b1 => let k := (Operand.zeroPageX b1).ea s
    [(k, s.read k <<< 1)]
  | .aslAbs w => let k := (Operand.absolute w).ea s
    [(k, s.read k <<< 1)]
  | .aslAbsX w => let k := (Operand.absoluteX w).ea s
    [(k, s.read k <<< 1)]
  | .lsrZp b1 => let k := (Operand.zeroPage b1).ea s
    [(k, s.read k >>> 1)]
  | .lsrZpX b1 => let k := (Operand.zeroPageX b1).ea s
    [(k, s.read k >>> 1)]
  | .lsrAbs w => let k := (Operand.absolute w).ea s
    [(k, s.read k >>> 1)]
  | .lsrAbsX w => let k := (Operand.absoluteX w).ea s
    [(k, s.read k >>> 1)]
  | .rolZp b1 => let k := (Operand.zeroPage b1).ea s
    [(k, s.read k <<< 1 ||| (if s.p.c then 0x01 else 0x00))]
  | .rolZpX b1 => let k := (Operand.zeroPageX b1).ea s
    [(k, s.read k <<< 1 ||| (if s.p.c then 0x01 else 0x00))]
  | .rolAbs w => let k := (Operand.absolute w).ea s
    [(k, s.read k <<< 1 ||| (if s.p.c then 0x01 else 0x00))]
  | .rolAbsX w => let k := (Operand.absoluteX w).ea s
    [(k, s.read k <<< 1 ||| (if s.p.c then 0x01 else 0x00))]
  | .rorZp b1 => let k := (Operand.zeroPage b1).ea s
    [(k, s.read k >>> 1 ||| (if s.p.c then 0x80 else 0x00))]
  | .rorZpX b1 => let k := (Operand.zeroPageX b1).ea s
    [(k, s.read k >>> 1 ||| (if s.p.c then 0x80 else 0x00))]
  | .rorAbs w => let k := (Operand.absolute w).ea s
    [(k, s.read k >>> 1 ||| (if s.p.c then 0x80 else 0x00))]
  | .rorAbsX w => let k := (Operand.absoluteX w).ea s
    [(k, s.read k >>> 1 ||| (if s.p.c then 0x80 else 0x00))]
  | .pha => [(stackAddr s.sp, s.a)]
  | .jsr _ => [(stackAddr s.sp, hiByte (s.pc + 1)), (stackAddr (s.sp - 1), loByte (s.pc + 1))]
  | .ldaImm _ | .ldaZp _ | .ldaZpX _ | .ldaAbs _ | .ldaAbsX _ | .ldaAbsY _ | .ldaIndX _ | .ldaIndY _ | .ldxImm _
  | .ldxZp _ | .ldxZpY _ | .ldxAbs _ | .ldxAbsY _ | .ldyImm _ | .ldyZp _ | .ldyZpX _ | .ldyAbs _ | .ldyAbsX _
  | .adcImm _ | .adcZp _ | .adcZpX _ | .adcAbs _ | .adcAbsX _ | .adcAbsY _ | .adcIndX _ | .adcIndY _ | .sbcImm _
  | .sbcZp _ | .sbcZpX _ | .sbcAbs _ | .sbcAbsX _ | .sbcAbsY _ | .sbcIndX _ | .sbcIndY _ | .inx | .iny | .dex | .dey
  | .cmpImm _ | .cmpZp _ | .cmpZpX _ | .cmpAbs _ | .cmpAbsX _ | .cmpAbsY _ | .cmpIndX _ | .cmpIndY _ | .cpxImm _
  | .cpxZp _ | .cpxAbs _ | .cpyImm _ | .cpyZp _ | .cpyAbs _ | .andImm _ | .andZp _ | .andZpX _ | .andAbs _
  | .andAbsX _ | .andAbsY _ | .andIndX _ | .andIndY _ | .oraImm _ | .oraZp _ | .oraZpX _ | .oraAbs _ | .oraAbsX _
  | .oraAbsY _ | .oraIndX _ | .oraIndY _ | .eorImm _ | .eorZp _ | .eorZpX _ | .eorAbs _ | .eorAbsX _ | .eorAbsY _
  | .eorIndX _ | .eorIndY _ | .bitZp _ | .bitAbs _ | .aslA | .lsrA | .rolA | .rorA | .brk | .bpl _ | .bmi _ | .bvc _
  | .bvs _ | .bcc _ | .bcs _ | .bne _ | .beq _ | .jmpAbs _ | .jmpInd _ | .rts | .pla | .txs | .tsx | .tax | .tay
  | .txa | .tya | .clc | .sec | .clv | .nop => []

/-- Every instruction stores its bytes where it says and leaves every other byte of memory -/
def Obligations.MemoryChangesOnlyWhereAnInstructionStores : Prop :=
  ∀ (i : Instr) (s t : State), exec i s = .next t →
    (∀ c ∈ stores i s, t.read c.1 = c.2) ∧ ∀ k, (∀ c ∈ stores i s, k ≠ c.1) → t.read k = s.read k

/-- AND, ORA and EOR, the instructions whose destination is `LOGIC_DEST` (R163). -/
def Sys2Proof.isLogical (i : Instr) : Bool := i.mnemonic ∈ ["AND", "ORA", "EOR"]

/-- The registers an instruction writes (R21). -/
def Sys2Proof.writes (r : Reg) (dest : LogicDest) (i : Instr) : Bool :=
  match r with
  | .a => i.mnemonic ∈ ["LDA", "ADC", "SBC", "TXA", "TYA", "PLA", "ASL_A", "LSR_A", "ROL_A", "ROR_A"] ||
      (isLogical i && dest = .a)
  | .x => i.mnemonic ∈ ["LDX", "TAX", "INX", "TSX", "DEX"] || (isLogical i && dest = .x)
  | .y => i.mnemonic ∈ ["LDY", "INY", "TAY", "DEY"]

/-- The registers an instruction reads, its addressing mode's index included (R21). -/
def Sys2Proof.reads (r : Reg) (i : Instr) : Bool :=
  match r with
  | .a => i.mnemonic ∈ ["STA", "TAX", "ADC", "SBC", "AND", "ORA", "EOR", "TAY", "PHA", "CMP", "BIT", "ASL_A", "LSR_A",
      "ROL_A", "ROR_A"]
  | .x => i.mnemonic ∈ ["INX", "STX", "TXA", "TXS", "DEX", "CPX"] ||
      i.mode ∈ [AddressingMode.zeroPageX, .absoluteX, .indirectX]
  | .y => i.mnemonic ∈ ["INY", "STY", "TYA", "DEY", "CPY"] ||
      i.mode ∈ [AddressingMode.zeroPageY, .absoluteY, .indirectY]

/-- An instruction changes only the registers R21 lists for it and depends only on those it lists -/
def Obligations.RegistersAreWrittenAndReadAsTabulated : Prop :=
  ∀ (i : Instr) (r : Reg) (s t : State), exec i s = .next t →
    (writes r s.cfg.logicDest i = false → t.reg r = s.reg r) ∧
    (reads r i = false → ∀ v, exec i (s.setReg r v) =
      .next (if writes r s.cfg.logicDest i then t else t.setReg r v))

/-- An instruction changes only the flags R31 lists for it, SP only as R27 says, and never I, D, B or B2 -/
def Obligations.FlagsAreWrittenAsTabulated : Prop :=
  ∀ (i : Instr) (s t : State), exec i s = .next t →
    (i.mnemonic ∉ ["ADC", "SBC", "ASL", "ASL_A", "LSR", "LSR_A", "ROL", "ROL_A", "ROR", "ROR_A", "CMP", "CPX", "CPY",
      "CLC", "SEC"] → t.p.c = s.p.c) ∧
    (i.mnemonic ∉ ["ADC", "SBC", "BIT", "CLV"] → t.p.v = s.p.v) ∧
    (i.mnemonic ∈ ["STA", "STX", "STY", "PHA", "TXS", "NOP", "JMP", "JSR", "RTS", "BPL", "BMI", "BVC", "BVS", "BCC",
      "BCS", "BNE", "BEQ", "BRK", "CLC", "SEC", "CLV"] → t.p.z = s.p.z ∧ t.p.n = s.p.n) ∧
    (t.p.i = s.p.i ∧ t.p.d = s.p.d ∧ t.p.b = s.p.b ∧ t.p.b2 = s.p.b2) ∧
    (i.mnemonic ∉ ["PHA", "PLA", "TXS", "JSR", "RTS"] → t.sp = s.sp)

/-- A step makes the host's move, fetches at pc, advances pc by one and runs the decoded instruction. That an idle machine is started by its first step is the model's convention (Log 6); that the operand bytes are read at decoding is its deduction (Log 10). -/
def Obligations.StepRunsTheDecodedInstruction : Prop :=
  ∀ s : State, s.run = .running ∨ s.run = .idle → let u := hostTurn { s with run := .running }
    (s.cfg.host = .none → u = { s with run := .running }) ∧
    (u.run ≠ .running → step s = .next u) ∧
    ∀ (i : Instr) (rest : List Byte), u.run = .running →
      decode u.cfg.profile [u.read u.pc, u.read (u.pc + 1), u.read (u.pc + 2)] = .ok (i, rest) →
      step s = exec i { u with pc := u.pc + 1 }

/-- An absent byte leaves the machine faulted with pc one past it and nothing else changed. That the faulted state is a next state and the step after it answers the fault is the model's convention (Log 6, Log 7). -/
def Obligations.UnrecognizedOpcodeFaultsAfterTheAdvance : Prop :=
  ∀ s : State, s.run = .running → let u := hostTurn s
    u.run = .running → lookup u.cfg.profile (u.read u.pc) = none →
      let f := Fault.unrecognizedOpcode (u.read u.pc)
      step s = .next { u with pc := u.pc + 1, run := .faulted f } ∧
      step { u with pc := u.pc + 1, run := .faulted f } = .fault f

/-- A running machine always steps; it halts exactly on BRK or the host's request and faults exactly on an absent byte. That an absent byte answers a next state is the model's convention (Log 7), and so is where the host's request is read from (Log 8). -/
def Obligations.RunStateAfterAStep : Prop :=
  ∀ s : State, s.run = .running → ∃ t, step s = .next t ∧
    let u := hostTurn s
    (t.run = .halted ↔ u.run = .halted ∨ u.read u.pc = 0x00) ∧
    (∀ f, t.run = .faulted f ↔ u.run = .running ∧ lookup u.cfg.profile (u.read u.pc) = none ∧
      f = .unrecognizedOpcode (u.read u.pc)) ∧ t.run ≠ .idle

/-- A halted or faulted machine has no step; the host's step() or run() begins a new run from the present pc. That the stop is a refusal when halted and the fault when faulted, and that an idle machine is started by its first step, is the model's convention (Log 6), and so is the bound on the steps of run() (Log 14). -/
def Obligations.EndedRunsStepOnlyByTheHost : Prop :=
  ∀ s : State, (s.run = .halted → step s = .refused .runEnded) ∧ (∀ f, s.run = .faulted f → step s = .fault f) ∧
    hostStep s = fullStep { s with run := .running } ∧ (s.run = .idle → step s = hostStep s) ∧
    hostRun 0 s = { s with run := .running } ∧
    (∃ t, hostStep s = .next t ∧ ∀ k, hostRun (k + 1) s = runLoop k t) ∧
    runLoop 0 s = s ∧ (s.run ≠ .running → ∀ k, runLoop k s = s) ∧
    (∀ k t, s.run = .running → step s = .next t → runLoop (k + 1) s = runLoop k t)

/-- The host's move writes only at HOST_WRITES, may write any bytes there, and may end the run with pc unchanged. That the host's moves are a queue followed for ever by free moves, and that a write elsewhere is dropped, is the model's choice (Log 8); it holds for every value of the free move. -/
def Obligations.HostMovesOnlyWhereAllowed : Prop :=
  ∀ s : State, (s.cfg.host = .none → hostTurn s = s) ∧
    ({ hostTurn s with mem := s.mem, run := s.run, hostMoves := s.hostMoves, hostTurns := s.hostTurns } = s) ∧
    (∀ k, k ∉ s.cfg.hostWrites → (hostTurn s).read k = s.read k) ∧
    (s.cfg.host = .hook →
      (∀ (m : HostMove) (rest : List HostMove), let t := hostTurn { s with hostMoves := m :: rest }
        t.hostMoves = rest ∧ t.hostTurns = s.hostTurns + 1 ∧ t.run = (if m.halt then .halted else s.run) ∧
        (m.halt = true → fullStep { s with hostMoves := m :: rest } = .next t)) ∧
      (∀ (v : Addr → Byte) (halt : Bool), ∃ m : HostMove, m.halt = halt ∧ ∀ rest,
        ∀ k ∈ s.cfg.hostWrites, (hostTurn { s with hostMoves := m :: rest }).read k = v k) ∧
      (s.hostMoves = [] → hostTurn s = hostTurn { s with hostMoves := [Config.hostMove s.hostTurns s] }))

/-- Whatever an instruction stores is what the next step fetches. That an absent byte answers a next state is the model's convention (Log 7). -/
def Obligations.FetchSeesTheStore : Prop :=
  ∀ (i : Instr) (s t : State), exec i s = .next t → t.run = .running → let u := hostTurn t
    (∀ c ∈ stores i s, t.cfg.host = .none ∨ c.1 ∉ t.cfg.hostWrites → u.read c.1 = c.2) ∧
    ∀ v, (t.pc, v) ∈ stores i s → t.cfg.host = .none ∨ t.pc ∉ t.cfg.hostWrites → u.run = .running →
      (lookup t.cfg.profile v = none →
        step t = .next { u with pc := t.pc + 1, run := .faulted (.unrecognizedOpcode v) }) ∧
      ∀ r, lookup t.cfg.profile v = some r →
        step t = exec (r.instr (u.read (t.pc + 1)) (u.read (t.pc + 2))) { u with pc := t.pc + 1 }

/-- Under CORE every step that stays running moves pc forward by one to three bytes -/
def Obligations.CoreProgramsAreStraightLine : Prop :=
  ∀ s t : State, s.cfg.profile = .core → s.run = .running → step s = .next t → t.run = .running →
    t.pc = s.pc + 1 ∨ t.pc = s.pc + 2 ∨ t.pc = s.pc + 3

/-- The invariant holds of State.reset, of every constructed machine, and is kept by the host's operations. That memory is data in a canonical form is the model's choice (Log 9), and so is that a fault stands recorded in a next state (Log 7). -/
def Obligations.InvariantHoldsAtConstructionAndReset : Prop :=
  MachineInv State.reset ∧ (∀ cfg, MachineInv (State.new cfg)) ∧ ∀ s, MachineInv s →
    MachineInv (hostReset s) ∧ MachineInv (startRun s) ∧ MachineInv (hostTurn s) ∧
    (∀ base, MachineInv (setVector base s)) ∧ (∀ k v, MachineInv (s.write k v)) ∧
    (∀ k w, MachineInv { s with mem := s.mem.writeWord k w }) ∧
    (∀ base prog t, loadProgram base prog s = .ok t → MachineInv t) ∧
    (∀ base prog t, loadAndRun base prog s = .ok t → MachineInv t) ∧
    (∀ t, hostStep s = .next t → MachineInv t) ∧ ∀ k, MachineInv (hostRun k s)

/-- Every step keeps memory canonical, the inert flags, the recorded fault genuine, and SP at 0xFD under CORE. That memory is data in a canonical form is the model's choice (Log 9), and so is that a fault stands recorded in a next state (Log 7). -/
def Obligations.EveryStepKeepsTheInvariant : Prop :=
  ∀ s t : State, MachineInv s → step s = .next t → MachineInv t
end

