-- ==== Sys2Proof/Laws/Bits.lean ====
section
/-!
SUPPORT. Laws of the byte-order and extension helpers.
-/

namespace Sys2Proof

@[simp] theorem zext16_toNat (b : Byte) : (zext16 b).toNat = b.toNat := by
  simp only [zext16, BitVec.toNat_setWidth]
  omega

@[simp] theorem pair_toNat (h l : Byte) : (pair h l).toNat = h.toNat * 256 + l.toNat := by
  have hh := h.isLt
  have hl := l.isLt
  have hs : h.toNat <<< 8 = h.toNat * 256 := by rw [Nat.shiftLeft_eq]
  simp only [pair, BitVec.toNat_or, BitVec.toNat_shiftLeft, zext16_toNat]
  rw [Nat.mod_eq_of_lt (by omega), ← Nat.shiftLeft_add_eq_or_of_lt (by omega), hs]

@[simp] theorem loByte_toNat (w : Addr) : (loByte w).toNat = w.toNat % 256 := by
  simp [loByte, BitVec.toNat_setWidth]

@[simp] theorem hiByte_toNat (w : Addr) : (hiByte w).toNat = w.toNat / 256 := by
  simp only [hiByte, BitVec.toNat_setWidth, BitVec.toNat_ushiftRight, Nat.shiftRight_eq_div_pow]
  omega

@[simp] theorem pair_hiByte_loByte (w : Addr) : pair (hiByte w) (loByte w) = w := by
  apply BitVec.eq_of_toNat_eq
  simp
  omega

@[simp] theorem loByte_pair (h l : Byte) : loByte (pair h l) = l := by
  apply BitVec.eq_of_toNat_eq
  simp
  omega

@[simp] theorem hiByte_pair (h l : Byte) : hiByte (pair h l) = h := by
  apply BitVec.eq_of_toNat_eq
  simp
  omega

theorem zext16_injective {b c : Byte} (h : zext16 b = zext16 c) : b = c := by
  apply BitVec.eq_of_toNat_eq
  rw [← zext16_toNat b, ← zext16_toNat c, h]

end Sys2Proof
end

