-- ==== Sys2Proof/Laws/Decode.lean ====
section
/-!
SUPPORT. Laws of the table's look-up: a row found under `EXTENDED` is the row found under every profile that has it.
-/

namespace Sys2Proof

theorem Profile.extended_includes (p : Profile) : Profile.extended.includes p = true := rfl

/-- A row that `EXTENDED` finds for a byte is what any profile that has the row finds (R7, R84). -/
theorem lookup_of_extended {p : Profile} {c : Byte} {r : OpCode} (h : lookup .extended c = some r)
    (hp : p.includes r.profile = true) : lookup p c = some r := by
  unfold lookup at h ⊢
  rw [List.find?_eq_some_iff_append] at h ⊢
  obtain ⟨hr, before, after, happ, hbefore⟩ := h
  simp only [Profile.extended_includes, Bool.and_true] at hr hbefore
  refine ⟨by simp [hr, hp], before, after, happ, fun q hq => ?_⟩
  have := hbefore q hq
  simp_all

theorem lookup_code {p : Profile} {c : Byte} {r : OpCode} (h : lookup p c = some r) : r.code = c := by
  have := List.find?_some h
  simp_all

theorem lookup_profile {p : Profile} {c : Byte} {r : OpCode} (h : lookup p c = some r) :
    p.includes r.profile = true := by
  have := List.find?_some h
  simp_all

theorem lookup_mem {p : Profile} {c : Byte} {r : OpCode} (h : lookup p c = some r) : r ∈ opcodeTable :=
  List.mem_of_find?_eq_some h

end Sys2Proof
end

