-- ==== Sys2Proof/Laws/Memory.lean ====
section
/-!
SUPPORT. Laws of memory: what a read after a write gives, that every memory operation keeps the canonical form, and that
canonical memories that read alike are equal.
-/

namespace Sys2Proof.Machine

@[simp] theorem Memory.read_nil (a : Addr) : Memory.read [] a = 0 := rfl

theorem Memory.read_cons (c : Host.Cell) (m : Memory) (a : Addr) :
    Memory.read (c :: m) a = if c.1 = a.toNat then c.2 else Memory.read m a := by
  by_cases h : c.1 = a.toNat <;> simp [Memory.read, h]

theorem Memory.read_erase (m : Memory) (k : Nat) (a : Addr) :
    (m.erase k).read a = if a.toNat = k then 0 else m.read a := by
  induction m with
  | nil => simp [Memory.erase]
  | cons c m ih =>
    unfold Memory.erase at ih ⊢
    by_cases hk : c.1 = k
    · simp only [List.filter_cons, hk, bne_self_eq_false, Bool.false_eq_true, ↓reduceIte, ih, Memory.read_cons]
      split <;> simp_all [eq_comm]
    · simp only [List.filter_cons, bne_iff_ne, ne_eq, hk, not_false_eq_true, ↓reduceIte, Memory.read_cons, ih]
      split
      · split <;> simp_all
      · rfl

theorem Memory.read_insert (m : Memory) (k : Nat) (v : Byte) (a : Addr) (hm : ∀ c ∈ m, c.1 ≠ k) :
    (Memory.insert k v m).read a = if a.toNat = k then v else m.read a := by
  induction m with
  | nil => simp [Memory.insert, Memory.read_cons, eq_comm]
  | cons c m ih =>
    have hc : c.1 ≠ k := hm c (by simp)
    have ih := ih fun d hd => hm d (by simp [hd])
    unfold Memory.insert
    split
    · simp [Memory.read_cons, eq_comm]
    · rw [Memory.read_cons, ih, Memory.read_cons]
      split
      · split <;> simp_all
      · rfl

theorem Memory.ne_of_mem_erase {m : Memory} {k : Nat} {c : Host.Cell} (h : c ∈ m.erase k) : c.1 ≠ k := by
  simpa using (List.mem_filter.mp h).2

/-- A write stores the byte and changes no other cell (R51, R60). -/
theorem Memory.read_write (m : Memory) (a b : Addr) (v : Byte) :
    (m.write a v).read b = if b = a then v else m.read b := by
  unfold Memory.write
  by_cases hv : v = Memory.unlisted
  · rw [if_pos hv, Memory.read_erase, hv]
    simp only [BitVec.toNat_eq]
    rfl
  · rw [if_neg hv, Memory.read_insert _ _ _ _ fun c hc => Memory.ne_of_mem_erase hc, Memory.read_erase]
    simp only [BitVec.toNat_eq]
    split <;> rfl

@[simp] theorem Memory.read_write_self (m : Memory) (a : Addr) (v : Byte) : (m.write a v).read a = v := by
  simp [Memory.read_write]

theorem Memory.read_write_ne (m : Memory) {a b : Addr} (v : Byte) (h : b ≠ a) : (m.write a v).read b = m.read b := by
  simp [Memory.read_write, h]

theorem Memory.wfFrom_mono {lo lo' : Nat} {m : Memory} (h : lo' ≤ lo) (hm : Memory.wfFrom lo m) :
    Memory.wfFrom lo' m := by
  cases m with
  | nil => rfl
  | cons c m => simp_all [Memory.wfFrom]; omega

theorem Memory.wfFrom_erase {lo : Nat} {m : Memory} (k : Nat) (hm : Memory.wfFrom lo m) :
    Memory.wfFrom lo (m.erase k) := by
  induction m generalizing lo with
  | nil => rfl
  | cons c m ih =>
    simp only [Memory.wfFrom, Bool.and_eq_true, decide_eq_true_eq] at hm
    have ih := ih hm.2
    unfold Memory.erase at ih ⊢
    by_cases hk : c.1 = k
    · rw [List.filter_cons_of_neg (by simp [hk])]
      exact Memory.wfFrom_mono (by omega) ih
    · rw [List.filter_cons_of_pos (by simp [hk])]
      simp only [Memory.wfFrom, Bool.and_eq_true, decide_eq_true_eq]
      exact ⟨hm.1, ih⟩

theorem Memory.wfFrom_insert {lo k : Nat} {v : Byte} {m : Memory} (hm : Memory.wfFrom lo m) (hlo : lo ≤ k)
    (hk : k < 65536) (hv : v ≠ Memory.unlisted) (hne : ∀ c ∈ m, c.1 ≠ k) : Memory.wfFrom lo (Memory.insert k v m) := by
  induction m generalizing lo with
  | nil =>
    simp only [Memory.insert, Memory.wfFrom, Bool.and_eq_true, decide_eq_true_eq, bne_iff_ne]
    exact ⟨⟨⟨hlo, hk⟩, hv⟩, trivial⟩
  | cons c m ih =>
    have hc : c.1 ≠ k := hne c (by simp)
    simp only [Memory.wfFrom, Bool.and_eq_true, decide_eq_true_eq, bne_iff_ne] at hm
    unfold Memory.insert
    split
    · simp only [Memory.wfFrom, Bool.and_eq_true, decide_eq_true_eq, bne_iff_ne]
      exact ⟨⟨⟨hlo, hk⟩, hv⟩, ⟨⟨by omega, hm.1.1.2⟩, hm.1.2⟩, hm.2⟩
    · simp only [Memory.wfFrom, Bool.and_eq_true, decide_eq_true_eq, bne_iff_ne]
      exact ⟨hm.1, ih hm.2 (by omega) fun d hd => hne d (by simp [hd])⟩

/-- A write keeps the canonical form. -/
theorem Memory.wf_write {m : Memory} (a : Addr) (v : Byte) (hm : m.wf) : (m.write a v).wf := by
  unfold Memory.write Memory.wf at *
  split
  · exact Memory.wfFrom_erase _ hm
  · rename_i hv
    exact Memory.wfFrom_insert (Memory.wfFrom_erase _ hm) (Nat.zero_le _) a.isLt hv fun c hc =>
      Memory.ne_of_mem_erase hc

theorem Memory.wf_writeWord {m : Memory} (a w : Addr) (hm : m.wf) : (m.writeWord a w).wf :=
  Memory.wf_write _ _ (Memory.wf_write _ _ hm)

theorem Memory.wf_writeBytes {m : Memory} (base : Addr) (bs : List Byte) (hm : m.wf) : (m.writeBytes base bs).wf := by
  induction bs generalizing m base with
  | nil => exact hm
  | cons b bs ih => exact ih _ (Memory.wf_write _ _ hm)

theorem Memory.wfFrom_ne {lo : Nat} {m : Memory} (hm : Memory.wfFrom lo m) {c : Host.Cell} (hc : c ∈ m) : lo ≤ c.1 := by
  induction m generalizing lo with
  | nil => cases hc
  | cons d m ih =>
    simp only [Memory.wfFrom, Bool.and_eq_true, decide_eq_true_eq] at hm
    rcases List.mem_cons.mp hc with rfl | hc
    · exact hm.1.1.1
    · have := ih hm.2 hc
      omega

theorem Memory.read_of_wfFrom {lo : Nat} {m : Memory} (hm : Memory.wfFrom lo m) {a : Addr} (ha : a.toNat < lo) :
    m.read a = 0 := by
  induction m generalizing lo with
  | nil => rfl
  | cons c m ih =>
    simp only [Memory.wfFrom, Bool.and_eq_true, decide_eq_true_eq] at hm
    rw [Memory.read_cons, if_neg (by omega)]
    exact ih hm.2 (by omega)

/-- Memories in canonical form that read alike at every address are equal data. -/
theorem Memory.ext_of_wfFrom {lo : Nat} {m n : Memory} (hm : Memory.wfFrom lo m) (hn : Memory.wfFrom lo n)
    (h : ∀ a : Addr, lo ≤ a.toNat → m.read a = n.read a) : m = n := by
  induction m generalizing lo n with
  | nil =>
    cases n with
    | nil => rfl
    | cons d n =>
      simp only [Memory.wfFrom, Bool.and_eq_true, decide_eq_true_eq] at hn
      have := h (BitVec.ofNat 16 d.1) (by simp; omega)
      simp [Memory.read_cons, Nat.mod_eq_of_lt hn.1.1.2] at this
      simp [Memory.unlisted, ← this] at hn
  | cons c m ih =>
    simp only [Memory.wfFrom, Bool.and_eq_true, decide_eq_true_eq, bne_iff_ne] at hm
    have hca : (BitVec.ofNat 16 c.1).toNat = c.1 := by simp; omega
    cases n with
    | nil =>
      have := h (BitVec.ofNat 16 c.1) (by omega)
      rw [Memory.read_cons, if_pos hca.symm] at this
      exact absurd this hm.1.2
    | cons d n =>
      simp only [Memory.wfFrom, Bool.and_eq_true, decide_eq_true_eq, bne_iff_ne] at hn
      have hda : (BitVec.ofNat 16 d.1).toNat = d.1 := by simp; omega
      have key : c.1 = d.1 := by
        rcases Nat.lt_trichotomy c.1 d.1 with hlt | heq | hlt
        · have := h (BitVec.ofNat 16 c.1) (by omega)
          rw [Memory.read_cons, if_pos hca.symm, Memory.read_cons, if_neg (by omega),
            Memory.read_of_wfFrom hn.2 (by omega)] at this
          exact absurd this hm.1.2
        · exact heq
        · have := h (BitVec.ofNat 16 d.1) (by omega)
          rw [Memory.read_cons, if_neg (by omega), Memory.read_of_wfFrom hm.2 (by omega), Memory.read_cons,
            if_pos hda.symm] at this
          exact absurd this.symm hn.1.2
      have hv : c.2 = d.2 := by
        have := h (BitVec.ofNat 16 c.1) (by omega)
        rwa [Memory.read_cons, if_pos hca.symm, Memory.read_cons, if_pos (by omega)] at this
      have tail : m = n := by
        refine ih hm.2 (key ▸ hn.2) fun a ha => ?_
        have := h a (by omega)
        rwa [Memory.read_cons, if_neg (by omega), Memory.read_cons, if_neg (by omega)] at this
      rw [tail, Prod.ext key hv]

theorem Memory.ext_of_wf {m n : Memory} (hm : m.wf) (hn : n.wf) (h : ∀ a, m.read a = n.read a) : m = n :=
  Memory.ext_of_wfFrom hm hn fun a _ => h a

end Sys2Proof.Machine
end

