-- ==== Sys2Proof/Laws/State.lean ====
section
/-!
SUPPORT. One lemma for each field of State under each primitive update, true by `rfl`, so that no later proof unfolds a
record update; and the composite updates in terms of the primitive ones.
-/

namespace Sys2Proof.Machine

@[simp] theorem State.setSP_a (s : State) (v : Byte) : (s.setSP v).a = s.a := rfl
@[simp] theorem State.setSP_x (s : State) (v : Byte) : (s.setSP v).x = s.x := rfl
@[simp] theorem State.setSP_y (s : State) (v : Byte) : (s.setSP v).y = s.y := rfl
@[simp] theorem State.setSP_sp (s : State) (v : Byte) : (s.setSP v).sp = v := rfl
@[simp] theorem State.setSP_pc (s : State) (v : Byte) : (s.setSP v).pc = s.pc := rfl
@[simp] theorem State.setSP_p (s : State) (v : Byte) : (s.setSP v).p = s.p := rfl
@[simp] theorem State.setSP_mem (s : State) (v : Byte) : (s.setSP v).mem = s.mem := rfl
@[simp] theorem State.setSP_run (s : State) (v : Byte) : (s.setSP v).run = s.run := rfl
@[simp] theorem State.setSP_cfg (s : State) (v : Byte) : (s.setSP v).cfg = s.cfg := rfl
@[simp] theorem State.setSP_hostMoves (s : State) (v : Byte) : (s.setSP v).hostMoves = s.hostMoves := rfl
@[simp] theorem State.setSP_hostTurns (s : State) (v : Byte) : (s.setSP v).hostTurns = s.hostTurns := rfl

@[simp] theorem State.setPc_a (s : State) (w : Addr) : (s.setPc w).a = s.a := rfl
@[simp] theorem State.setPc_x (s : State) (w : Addr) : (s.setPc w).x = s.x := rfl
@[simp] theorem State.setPc_y (s : State) (w : Addr) : (s.setPc w).y = s.y := rfl
@[simp] theorem State.setPc_sp (s : State) (w : Addr) : (s.setPc w).sp = s.sp := rfl
@[simp] theorem State.setPc_pc (s : State) (w : Addr) : (s.setPc w).pc = w := rfl
@[simp] theorem State.setPc_p (s : State) (w : Addr) : (s.setPc w).p = s.p := rfl
@[simp] theorem State.setPc_mem (s : State) (w : Addr) : (s.setPc w).mem = s.mem := rfl
@[simp] theorem State.setPc_run (s : State) (w : Addr) : (s.setPc w).run = s.run := rfl
@[simp] theorem State.setPc_cfg (s : State) (w : Addr) : (s.setPc w).cfg = s.cfg := rfl
@[simp] theorem State.setPc_hostMoves (s : State) (w : Addr) : (s.setPc w).hostMoves = s.hostMoves := rfl
@[simp] theorem State.setPc_hostTurns (s : State) (w : Addr) : (s.setPc w).hostTurns = s.hostTurns := rfl

@[simp] theorem State.write_a (s : State) (k : Addr) (v : Byte) : (s.write k v).a = s.a := rfl
@[simp] theorem State.write_x (s : State) (k : Addr) (v : Byte) : (s.write k v).x = s.x := rfl
@[simp] theorem State.write_y (s : State) (k : Addr) (v : Byte) : (s.write k v).y = s.y := rfl
@[simp] theorem State.write_sp (s : State) (k : Addr) (v : Byte) : (s.write k v).sp = s.sp := rfl
@[simp] theorem State.write_pc (s : State) (k : Addr) (v : Byte) : (s.write k v).pc = s.pc := rfl
@[simp] theorem State.write_p (s : State) (k : Addr) (v : Byte) : (s.write k v).p = s.p := rfl
@[simp] theorem State.write_mem (s : State) (k : Addr) (v : Byte) : (s.write k v).mem = s.mem.write k v := rfl
@[simp] theorem State.write_run (s : State) (k : Addr) (v : Byte) : (s.write k v).run = s.run := rfl
@[simp] theorem State.write_cfg (s : State) (k : Addr) (v : Byte) : (s.write k v).cfg = s.cfg := rfl
@[simp] theorem State.write_hostMoves (s : State) (k : Addr) (v : Byte) : (s.write k v).hostMoves = s.hostMoves := rfl
@[simp] theorem State.write_hostTurns (s : State) (k : Addr) (v : Byte) : (s.write k v).hostTurns = s.hostTurns := rfl

@[simp] theorem State.setRun_a (s : State) (r : RunState) : (s.setRun r).a = s.a := rfl
@[simp] theorem State.setRun_x (s : State) (r : RunState) : (s.setRun r).x = s.x := rfl
@[simp] theorem State.setRun_y (s : State) (r : RunState) : (s.setRun r).y = s.y := rfl
@[simp] theorem State.setRun_sp (s : State) (r : RunState) : (s.setRun r).sp = s.sp := rfl
@[simp] theorem State.setRun_pc (s : State) (r : RunState) : (s.setRun r).pc = s.pc := rfl
@[simp] theorem State.setRun_p (s : State) (r : RunState) : (s.setRun r).p = s.p := rfl
@[simp] theorem State.setRun_mem (s : State) (r : RunState) : (s.setRun r).mem = s.mem := rfl
@[simp] theorem State.setRun_run (s : State) (r : RunState) : (s.setRun r).run = r := rfl
@[simp] theorem State.setRun_cfg (s : State) (r : RunState) : (s.setRun r).cfg = s.cfg := rfl
@[simp] theorem State.setRun_hostMoves (s : State) (r : RunState) : (s.setRun r).hostMoves = s.hostMoves := rfl
@[simp] theorem State.setRun_hostTurns (s : State) (r : RunState) : (s.setRun r).hostTurns = s.hostTurns := rfl

@[simp] theorem State.setZN_a (s : State) (v : Byte) : (s.setZN v).a = s.a := rfl
@[simp] theorem State.setZN_x (s : State) (v : Byte) : (s.setZN v).x = s.x := rfl
@[simp] theorem State.setZN_y (s : State) (v : Byte) : (s.setZN v).y = s.y := rfl
@[simp] theorem State.setZN_sp (s : State) (v : Byte) : (s.setZN v).sp = s.sp := rfl
@[simp] theorem State.setZN_pc (s : State) (v : Byte) : (s.setZN v).pc = s.pc := rfl
@[simp] theorem State.setZN_p (s : State) (v : Byte) : (s.setZN v).p = s.p.setZN v := rfl
@[simp] theorem State.setZN_mem (s : State) (v : Byte) : (s.setZN v).mem = s.mem := rfl
@[simp] theorem State.setZN_run (s : State) (v : Byte) : (s.setZN v).run = s.run := rfl
@[simp] theorem State.setZN_cfg (s : State) (v : Byte) : (s.setZN v).cfg = s.cfg := rfl
@[simp] theorem State.setZN_hostMoves (s : State) (v : Byte) : (s.setZN v).hostMoves = s.hostMoves := rfl
@[simp] theorem State.setZN_hostTurns (s : State) (v : Byte) : (s.setZN v).hostTurns = s.hostTurns := rfl

@[simp] theorem State.setC_a (s : State) (c : Bool) : (s.setC c).a = s.a := rfl
@[simp] theorem State.setC_x (s : State) (c : Bool) : (s.setC c).x = s.x := rfl
@[simp] theorem State.setC_y (s : State) (c : Bool) : (s.setC c).y = s.y := rfl
@[simp] theorem State.setC_sp (s : State) (c : Bool) : (s.setC c).sp = s.sp := rfl
@[simp] theorem State.setC_pc (s : State) (c : Bool) : (s.setC c).pc = s.pc := rfl
@[simp] theorem State.setC_p (s : State) (c : Bool) : (s.setC c).p = { s.p with c := c } := rfl
@[simp] theorem State.setC_mem (s : State) (c : Bool) : (s.setC c).mem = s.mem := rfl
@[simp] theorem State.setC_run (s : State) (c : Bool) : (s.setC c).run = s.run := rfl
@[simp] theorem State.setC_cfg (s : State) (c : Bool) : (s.setC c).cfg = s.cfg := rfl
@[simp] theorem State.setC_hostMoves (s : State) (c : Bool) : (s.setC c).hostMoves = s.hostMoves := rfl
@[simp] theorem State.setC_hostTurns (s : State) (c : Bool) : (s.setC c).hostTurns = s.hostTurns := rfl

@[simp] theorem State.setZ_a (s : State) (z : Bool) : (s.setZ z).a = s.a := rfl
@[simp] theorem State.setZ_x (s : State) (z : Bool) : (s.setZ z).x = s.x := rfl
@[simp] theorem State.setZ_y (s : State) (z : Bool) : (s.setZ z).y = s.y := rfl
@[simp] theorem State.setZ_sp (s : State) (z : Bool) : (s.setZ z).sp = s.sp := rfl
@[simp] theorem State.setZ_pc (s : State) (z : Bool) : (s.setZ z).pc = s.pc := rfl
@[simp] theorem State.setZ_p (s : State) (z : Bool) : (s.setZ z).p = { s.p with z := z } := rfl
@[simp] theorem State.setZ_mem (s : State) (z : Bool) : (s.setZ z).mem = s.mem := rfl
@[simp] theorem State.setZ_run (s : State) (z : Bool) : (s.setZ z).run = s.run := rfl
@[simp] theorem State.setZ_cfg (s : State) (z : Bool) : (s.setZ z).cfg = s.cfg := rfl
@[simp] theorem State.setZ_hostMoves (s : State) (z : Bool) : (s.setZ z).hostMoves = s.hostMoves := rfl
@[simp] theorem State.setZ_hostTurns (s : State) (z : Bool) : (s.setZ z).hostTurns = s.hostTurns := rfl

@[simp] theorem State.setV_a (s : State) (v : Bool) : (s.setV v).a = s.a := rfl
@[simp] theorem State.setV_x (s : State) (v : Bool) : (s.setV v).x = s.x := rfl
@[simp] theorem State.setV_y (s : State) (v : Bool) : (s.setV v).y = s.y := rfl
@[simp] theorem State.setV_sp (s : State) (v : Bool) : (s.setV v).sp = s.sp := rfl
@[simp] theorem State.setV_pc (s : State) (v : Bool) : (s.setV v).pc = s.pc := rfl
@[simp] theorem State.setV_p (s : State) (v : Bool) : (s.setV v).p = { s.p with v := v } := rfl
@[simp] theorem State.setV_mem (s : State) (v : Bool) : (s.setV v).mem = s.mem := rfl
@[simp] theorem State.setV_run (s : State) (v : Bool) : (s.setV v).run = s.run := rfl
@[simp] theorem State.setV_cfg (s : State) (v : Bool) : (s.setV v).cfg = s.cfg := rfl
@[simp] theorem State.setV_hostMoves (s : State) (v : Bool) : (s.setV v).hostMoves = s.hostMoves := rfl
@[simp] theorem State.setV_hostTurns (s : State) (v : Bool) : (s.setV v).hostTurns = s.hostTurns := rfl

@[simp] theorem State.advance_a (s : State) (n : Addr) : (s.advance n).a = s.a := rfl
@[simp] theorem State.advance_x (s : State) (n : Addr) : (s.advance n).x = s.x := rfl
@[simp] theorem State.advance_y (s : State) (n : Addr) : (s.advance n).y = s.y := rfl
@[simp] theorem State.advance_sp (s : State) (n : Addr) : (s.advance n).sp = s.sp := rfl
@[simp] theorem State.advance_pc (s : State) (n : Addr) : (s.advance n).pc = s.pc + n := rfl
@[simp] theorem State.advance_p (s : State) (n : Addr) : (s.advance n).p = s.p := rfl
@[simp] theorem State.advance_mem (s : State) (n : Addr) : (s.advance n).mem = s.mem := rfl
@[simp] theorem State.advance_run (s : State) (n : Addr) : (s.advance n).run = s.run := rfl
@[simp] theorem State.advance_cfg (s : State) (n : Addr) : (s.advance n).cfg = s.cfg := rfl
@[simp] theorem State.advance_hostMoves (s : State) (n : Addr) : (s.advance n).hostMoves = s.hostMoves := rfl
@[simp] theorem State.advance_hostTurns (s : State) (n : Addr) : (s.advance n).hostTurns = s.hostTurns := rfl

@[simp] theorem State.setN_a (s : State) (n : Bool) : (s.setN n).a = s.a := rfl
@[simp] theorem State.setN_x (s : State) (n : Bool) : (s.setN n).x = s.x := rfl
@[simp] theorem State.setN_y (s : State) (n : Bool) : (s.setN n).y = s.y := rfl
@[simp] theorem State.setN_sp (s : State) (n : Bool) : (s.setN n).sp = s.sp := rfl
@[simp] theorem State.setN_pc (s : State) (n : Bool) : (s.setN n).pc = s.pc := rfl
@[simp] theorem State.setN_p (s : State) (n : Bool) : (s.setN n).p = { s.p with n := n } := rfl
@[simp] theorem State.setN_mem (s : State) (n : Bool) : (s.setN n).mem = s.mem := rfl
@[simp] theorem State.setN_run (s : State) (n : Bool) : (s.setN n).run = s.run := rfl
@[simp] theorem State.setN_cfg (s : State) (n : Bool) : (s.setN n).cfg = s.cfg := rfl
@[simp] theorem State.setN_hostMoves (s : State) (n : Bool) : (s.setN n).hostMoves = s.hostMoves := rfl
@[simp] theorem State.setN_hostTurns (s : State) (n : Bool) : (s.setN n).hostTurns = s.hostTurns := rfl

@[simp] theorem State.setReg_a_a (s : State) (v : Byte) : (s.setReg .a v).a = v := rfl
@[simp] theorem State.setReg_a_x (s : State) (v : Byte) : (s.setReg .a v).x = s.x := rfl
@[simp] theorem State.setReg_a_y (s : State) (v : Byte) : (s.setReg .a v).y = s.y := rfl
@[simp] theorem State.setReg_x_a (s : State) (v : Byte) : (s.setReg .x v).a = s.a := rfl
@[simp] theorem State.setReg_x_x (s : State) (v : Byte) : (s.setReg .x v).x = v := rfl
@[simp] theorem State.setReg_x_y (s : State) (v : Byte) : (s.setReg .x v).y = s.y := rfl
@[simp] theorem State.setReg_y_a (s : State) (v : Byte) : (s.setReg .y v).a = s.a := rfl
@[simp] theorem State.setReg_y_x (s : State) (v : Byte) : (s.setReg .y v).x = s.x := rfl
@[simp] theorem State.setReg_y_y (s : State) (v : Byte) : (s.setReg .y v).y = v := rfl

@[simp] theorem State.setReg_sp (s : State) (r : Reg) (v : Byte) : (s.setReg r v).sp = s.sp := by cases r <;> rfl
@[simp] theorem State.setReg_pc (s : State) (r : Reg) (v : Byte) : (s.setReg r v).pc = s.pc := by cases r <;> rfl
@[simp] theorem State.setReg_p (s : State) (r : Reg) (v : Byte) : (s.setReg r v).p = s.p := by cases r <;> rfl
@[simp] theorem State.setReg_mem (s : State) (r : Reg) (v : Byte) : (s.setReg r v).mem = s.mem := by cases r <;> rfl
@[simp] theorem State.setReg_run (s : State) (r : Reg) (v : Byte) : (s.setReg r v).run = s.run := by cases r <;> rfl
@[simp] theorem State.setReg_cfg (s : State) (r : Reg) (v : Byte) : (s.setReg r v).cfg = s.cfg := by cases r <;> rfl
@[simp] theorem State.setReg_hostMoves (s : State) (r : Reg) (v : Byte) : (s.setReg r v).hostMoves = s.hostMoves := by cases r <;> rfl
@[simp] theorem State.setReg_hostTurns (s : State) (r : Reg) (v : Byte) : (s.setReg r v).hostTurns = s.hostTurns := by cases r <;> rfl

@[simp] theorem State.load_sp (s : State) (r : Reg) (v : Byte) : (s.load r v).sp = s.sp := by cases r <;> rfl
@[simp] theorem State.load_pc (s : State) (r : Reg) (v : Byte) : (s.load r v).pc = s.pc := by cases r <;> rfl
@[simp] theorem State.load_p (s : State) (r : Reg) (v : Byte) : (s.load r v).p = s.p.setZN v := by cases r <;> rfl
@[simp] theorem State.load_mem (s : State) (r : Reg) (v : Byte) : (s.load r v).mem = s.mem := by cases r <;> rfl
@[simp] theorem State.load_run (s : State) (r : Reg) (v : Byte) : (s.load r v).run = s.run := by cases r <;> rfl
@[simp] theorem State.load_cfg (s : State) (r : Reg) (v : Byte) : (s.load r v).cfg = s.cfg := by cases r <;> rfl
@[simp] theorem State.load_hostMoves (s : State) (r : Reg) (v : Byte) : (s.load r v).hostMoves = s.hostMoves := by cases r <;> rfl
@[simp] theorem State.load_hostTurns (s : State) (r : Reg) (v : Byte) : (s.load r v).hostTurns = s.hostTurns := by cases r <;> rfl

@[simp] theorem State.reg_a (s : State) : s.reg .a = s.a := rfl
@[simp] theorem State.reg_x (s : State) : s.reg .x = s.x := rfl
@[simp] theorem State.reg_y (s : State) : s.reg .y = s.y := rfl

@[simp] theorem State.reg_setReg (s : State) (r q : Reg) (v : Byte) :
    (s.setReg r v).reg q = if q = r then v else s.reg q := by cases r <;> cases q <;> rfl

theorem State.advance_eq (s : State) (n : Addr) : s.advance n = s.setPc (s.pc + n) := rfl
theorem State.raise_eq (s : State) (f : Fault) : s.raise f = s.setRun (.faulted f) := rfl
theorem State.halt_eq (s : State) : s.halt = s.setRun .halted := rfl
theorem State.load_eq (s : State) (r : Reg) (v : Byte) : s.load r v = (s.setReg r v).setZN v := rfl
theorem State.read_eq (s : State) (k : Addr) : s.read k = s.mem.read k := rfl
theorem State.push_eq (s : State) (v : Byte) : s.push v = (s.write (stackAddr s.sp) v).setSP (s.sp - 1) := rfl


@[simp] theorem Flags.setZN_c (f : Flags) (v : Byte) : (f.setZN v).c = f.c := rfl
@[simp] theorem Flags.setZN_z (f : Flags) (v : Byte) : (f.setZN v).z = (v == 0) := rfl
@[simp] theorem Flags.setZN_i (f : Flags) (v : Byte) : (f.setZN v).i = f.i := rfl
@[simp] theorem Flags.setZN_d (f : Flags) (v : Byte) : (f.setZN v).d = f.d := rfl
@[simp] theorem Flags.setZN_b (f : Flags) (v : Byte) : (f.setZN v).b = f.b := rfl
@[simp] theorem Flags.setZN_b2 (f : Flags) (v : Byte) : (f.setZN v).b2 = f.b2 := rfl
@[simp] theorem Flags.setZN_v (f : Flags) (v : Byte) : (f.setZN v).v = f.v := rfl
@[simp] theorem Flags.setZN_n (f : Flags) (v : Byte) : (f.setZN v).n = bit7 v := rfl

end Sys2Proof.Machine
end

