-- ==== Sys2Proof/Laws/Ops.lean ====
section
/-!
SUPPORT. One lemma per shared operation that says what it does: reads through a write, the stack's cells, and what the host's
operations change.
-/

namespace Sys2Proof.Machine

@[simp] theorem State.write_read (s : State) (k j : Addr) (v : Byte) :
    (s.write k v).read j = if j = k then v else s.read j := Memory.read_write _ _ _ _

theorem stackAddr_toNat (sp : Byte) : (stackAddr sp).toNat = 256 + sp.toNat := by
  have := sp.isLt
  simp only [stackAddr, BitVec.toNat_add, zext16_toNat]
  show (256 + sp.toNat) % 65536 = _
  omega

@[simp] theorem stackAddr_inj {b c : Byte} : stackAddr b = stackAddr c ↔ b = c := by
  constructor
  · intro h
    have := congrArg BitVec.toNat h
    rw [stackAddr_toNat, stackAddr_toNat] at this
    exact BitVec.eq_of_toNat_eq (by omega)
  · rintro rfl; rfl

theorem State.push_read (s : State) (v : Byte) (k : Addr) :
    (s.push v).read k = if k = stackAddr s.sp then v else s.read k := Memory.read_write _ _ _ _

@[simp] theorem State.push_sp (s : State) (v : Byte) : (s.push v).sp = s.sp - 1 := rfl

/-- `pop` answers the byte above `SP` and changes `SP` alone (R206). -/
theorem State.pop_eq (s : State) : s.pop = (s.read (stackAddr (s.sp + 1)), s.setSP (s.sp + 1)) := rfl

/-- `pop16` answers the word above `SP` and changes `SP` alone (R208). -/
theorem State.pop16_eq (s : State) :
    s.pop16 = (pair (s.read (stackAddr (s.sp + 1 + 1))) (s.read (stackAddr (s.sp + 1))), s.setSP (s.sp + 1 + 1)) := rfl

/-- The host's writes change memory alone. -/
theorem hostWrite_eq (s : State) (ws : List (Addr × Byte)) :
    hostWrite s ws = { s with mem := (hostWrite s ws).mem } := by
  induction ws generalizing s with
  | nil => rfl
  | cons w ws ih =>
    unfold hostWrite
    split
    · exact ih (s.write w.1 w.2)
    · exact ih s

theorem hostWrite_wf {s : State} (ws : List (Addr × Byte)) (h : s.mem.wf) : (hostWrite s ws).mem.wf := by
  induction ws generalizing s with
  | nil => exact h
  | cons w ws ih =>
    unfold hostWrite
    split
    · exact ih (Memory.wf_write _ _ h)
    · exact ih h

/-- What the host's writes leave in memory depends on memory and the configuration alone. -/
theorem hostWrite_mem_congr (ws : List (Addr × Byte)) {t u : State} (hm : t.mem = u.mem) (hc : t.cfg = u.cfg) :
    (hostWrite t ws).mem = (hostWrite u ws).mem := by
  induction ws generalizing t u with
  | nil => exact hm
  | cons w ws ih =>
    unfold hostWrite
    rw [hc]
    split
    · exact ih (by simp [hm]) hc
    · exact ih hm hc

/-- The host's next move is the first one given, or the free one when none is left. -/
theorem nextMove_cases (s : State) :
    (∃ m rest, s.hostMoves = m :: rest ∧ nextMove s = m) ∨
      (s.hostMoves = [] ∧ nextMove s = Config.hostMove s.hostTurns s) := by
  unfold nextMove
  cases h : s.hostMoves with
  | nil => exact .inr ⟨rfl, rfl⟩
  | cons m rest => exact .inl ⟨m, rest, rfl, rfl⟩

/-- A move changes memory, the run state and the two fields that say which move comes next. -/
theorem makeMove_eq (m : HostMove) (s : State) :
    makeMove m s =
      { s with
        mem := (hostWrite s m.writes).mem
        run := if m.halt then .halted else s.run
        hostMoves := s.hostMoves.tail
        hostTurns := s.hostTurns + 1 } := by
  have h := hostWrite_mem_congr m.writes
    (t := { s with hostMoves := s.hostMoves.tail, hostTurns := s.hostTurns + 1 }) (u := s) rfl rfl
  unfold makeMove
  rw [hostWrite_eq, h]
  cases m.halt <;> rfl

theorem hostTurn_none {s : State} (h : s.cfg.host = .none) : hostTurn s = s := by
  unfold hostTurn; rw [h]

theorem hostTurn_hook {s : State} (h : s.cfg.host = .hook) : hostTurn s = makeMove (nextMove s) s := by
  unfold hostTurn; rw [h]

/-- Everything the host's turn can do: nothing without a host, and one move with one (R258). -/
theorem hostTurn_cases (s : State) :
    (s.cfg.host = .none ∧ hostTurn s = s) ∨ (s.cfg.host = .hook ∧ hostTurn s = makeMove (nextMove s) s) := by
  cases h : s.cfg.host with
  | none => exact .inl ⟨rfl, hostTurn_none h⟩
  | hook => exact .inr ⟨rfl, hostTurn_hook h⟩

/-- A host's turn keeps memory's canonical form. -/
theorem hostTurn_wf {s : State} (h : s.mem.wf) : (hostTurn s).mem.wf := by
  rcases hostTurn_cases s with ⟨-, ht⟩ | ⟨-, ht⟩ <;> rw [ht]
  · exact h
  · rw [makeMove_eq]; exact hostWrite_wf _ h

/-- A host's turn changes memory, the run state and the two fields that say which move comes next. -/
theorem hostTurn_eq (s : State) :
    hostTurn s =
      { s with
        mem := (hostTurn s).mem
        run := (hostTurn s).run
        hostMoves := (hostTurn s).hostMoves
        hostTurns := (hostTurn s).hostTurns } := by
  rcases hostTurn_cases s with ⟨-, ht⟩ | ⟨-, ht⟩ <;> rw [ht]
  rw [makeMove_eq]

/-- A host's turn leaves the run state or, if the host asks, halts. -/
theorem hostTurn_run (s : State) : (hostTurn s).run = s.run ∨ (hostTurn s).run = .halted := by
  rcases hostTurn_cases s with ⟨-, ht⟩ | ⟨-, ht⟩ <;> rw [ht]
  · exact .inl rfl
  · rw [makeMove_eq]
    cases (nextMove s).halt
    · exact .inl rfl
    · exact .inr rfl

/-- The host's writes leave every byte outside `HOST_WRITES`. -/
theorem hostWrite_read_of_not_mem (s : State) (ws : List (Addr × Byte)) {k : Addr} (h : k ∉ s.cfg.hostWrites) :
    (hostWrite s ws).read k = s.read k := by
  induction ws generalizing s with
  | nil => rfl
  | cons w ws ih =>
    unfold hostWrite
    split
    · rename_i hc
      rw [ih (s.write w.1 w.2) h, State.write_read, if_neg]
      rintro rfl
      exact h (List.contains_iff_mem.mp hc)
    · exact ih _ h

/-- A host's turn leaves every byte that the host may not write (R258). -/
theorem hostTurn_read {s : State} {k : Addr} (h : s.cfg.host = .none ∨ k ∉ s.cfg.hostWrites) :
    (hostTurn s).read k = s.read k := by
  rcases hostTurn_cases s with ⟨-, ht⟩ | ⟨hh, ht⟩ <;> rw [ht]
  rcases h with h | h
  · rw [hh] at h; cases h
  · rw [makeMove_eq]; exact hostWrite_read_of_not_mem s _ h

end Sys2Proof.Machine
end

