-- ==== Sys2Proof/Laws/Exec.lean ====
section
/-!
SUPPORT. What every meaning does whatever the instruction: it answers a next state (R244) that keeps the configuration, the
host's moves and memory's canonical form. One lemma per shared operation, then one over all instructions.
-/

namespace Sys2Proof.Machine

/-- `t` has the configuration and the host's moves of `s`, and canonical memory if `s` has. -/
structure Keeps (s t : State) : Prop where
  cfg : t.cfg = s.cfg
  hostMoves : t.hostMoves = s.hostMoves
  hostTurns : t.hostTurns = s.hostTurns
  memory : s.mem.wf = true → t.mem.wf = true

theorem Keeps.refl (s : State) : Keeps s s := ⟨rfl, rfl, rfl, id⟩

theorem Keeps.trans {s t u : State} (h : Keeps s t) (k : Keeps t u) : Keeps s u :=
  ⟨k.cfg.trans h.cfg, k.hostMoves.trans h.hostMoves, k.hostTurns.trans h.hostTurns, k.memory ∘ h.memory⟩

theorem keeps_write (s : State) (k : Addr) (v : Byte) : Keeps s (s.write k v) := ⟨rfl, rfl, rfl, Memory.wf_write k v⟩

/-- An update of registers, flags, `pc`, `SP` or the run state keeps what `Keeps` says. -/
theorem keeps_of_eq {s t : State} (hc : t.cfg = s.cfg) (hh : t.hostMoves = s.hostMoves)
    (ht : t.hostTurns = s.hostTurns) (hm : t.mem = s.mem) : Keeps s t := ⟨hc, hh, ht, fun h => hm ▸ h⟩

theorem keeps_load (s : State) (r : Reg) (v : Byte) : Keeps s (s.load r v) := by
  cases r <;> exact keeps_of_eq rfl rfl rfl rfl

theorem keeps_addWithCarry (s : State) (m : Byte) : Keeps s (s.addWithCarry m) := keeps_of_eq rfl rfl rfl rfl

theorem keeps_compare (s : State) (r : Reg) (m : Byte) : Keeps s (s.compare r m) := keeps_of_eq rfl rfl rfl rfl

theorem keeps_modify (s : State) (k : Addr) (v : Byte) : Keeps s (s.modify k v) := ⟨rfl, rfl, rfl, Memory.wf_write k v⟩

theorem keeps_shiftMem (s : State) (f : ShiftFn) (k : Addr) : Keeps s (s.shiftMem f k) :=
  ⟨rfl, rfl, rfl, Memory.wf_write k _⟩

theorem keeps_shiftA (s : State) (f : ShiftFn) : Keeps s (s.shiftA f) := keeps_of_eq rfl rfl rfl rfl

theorem keeps_push (s : State) (v : Byte) : Keeps s (s.push v) := ⟨rfl, rfl, rfl, Memory.wf_write _ v⟩

theorem keeps_push16 (s : State) (w : Addr) : Keeps s (s.push16 w) := (keeps_push _ _).trans (keeps_push _ _)

/-- The handler's state after the loop's second advance. -/
theorem runOperand_keeps {handler : Operand → State → State} {o : Operand} {s : State} (h : Keeps s (handler o s)) :
    ∃ t, runOperand handler o s = .next t ∧ Keeps s t := ⟨_, rfl, h.trans (keeps_of_eq rfl rfl rfl rfl)⟩

theorem runImplied_keeps {handler : State → State} {s : State} (h : Keeps s (handler s)) :
    ∃ t, runImplied handler s = .next t ∧ Keeps s t := ⟨_, rfl, h.trans (keeps_of_eq rfl rfl rfl rfl)⟩

theorem branchIf_keeps (cond : Bool) (b1 : Byte) (s : State) : ∃ t, branchIf cond b1 s = .next t ∧ Keeps s t := by
  refine ⟨_, rfl, ?_⟩
  split <;> exact keeps_of_eq rfl rfl rfl rfl

/-- Every instruction answers a next state, and keeps the configuration, the host's moves and canonical memory. -/
theorem exec_keeps (i : Instr) (s : State) : ∃ t, exec i s = .next t ∧ Keeps s t := by
  cases i
  case jmpAbs => exact ⟨_, rfl, keeps_of_eq rfl rfl rfl rfl⟩
  case jmpInd => exact ⟨_, rfl, keeps_of_eq rfl rfl rfl rfl⟩
  case jsr => exact ⟨_, rfl, (keeps_push16 _ _).trans (keeps_of_eq rfl rfl rfl rfl)⟩
  case rts => exact ⟨_, rfl, keeps_of_eq rfl rfl rfl rfl⟩
  case ldaImm | ldaZp | ldaZpX | ldaAbs | ldaAbsX | ldaAbsY | ldaIndX | ldaIndY | ldxImm | ldxZp | ldxZpY
      | ldxAbs | ldxAbsY | ldyImm | ldyZp | ldyZpX | ldyAbs | ldyAbsX | andImm | andZp | andZpX | andAbs
      | andAbsX | andAbsY | andIndX | andIndY | oraImm | oraZp | oraZpX | oraAbs | oraAbsX | oraAbsY
      | oraIndX | oraIndY | eorImm | eorZp | eorZpX | eorAbs | eorAbsX | eorAbsY | eorIndX | eorIndY =>
    exact runOperand_keeps (keeps_load _ _ _)
  case staZp | staZpX | staAbs | staAbsX | staAbsY | staIndX | staIndY | stxZp | stxZpY | stxAbs | styZp
      | styZpX | styAbs =>
    exact runOperand_keeps (keeps_write _ _ _)
  case adcImm | adcZp | adcZpX | adcAbs | adcAbsX | adcAbsY | adcIndX | adcIndY | sbcImm | sbcZp | sbcZpX
      | sbcAbs | sbcAbsX | sbcAbsY | sbcIndX | sbcIndY =>
    exact runOperand_keeps (keeps_addWithCarry _ _)
  case incZp | incZpX | incAbs | incAbsX | decZp | decZpX | decAbs | decAbsX =>
    exact runOperand_keeps (keeps_modify _ _ _)
  case cmpImm | cmpZp | cmpZpX | cmpAbs | cmpAbsX | cmpAbsY | cmpIndX | cmpIndY | cpxImm | cpxZp | cpxAbs
      | cpyImm | cpyZp | cpyAbs =>
    exact runOperand_keeps (keeps_compare _ _ _)
  case bitZp | bitAbs =>
    exact runOperand_keeps (keeps_of_eq rfl rfl rfl rfl)
  case aslZp | aslZpX | aslAbs | aslAbsX | lsrZp | lsrZpX | lsrAbs | lsrAbsX | rolZp | rolZpX | rolAbs
      | rolAbsX | rorZp | rorZpX | rorAbs | rorAbsX =>
    exact runOperand_keeps (keeps_shiftMem _ _ _)
  case inx | iny | dex | dey | tsx | tax | tay | txa | tya =>
    exact runImplied_keeps (keeps_load _ _ _)
  case aslA | lsrA | rolA | rorA =>
    exact runImplied_keeps (keeps_shiftA _ _)
  case brk | pla | txs | clc | sec | clv | nop =>
    exact runImplied_keeps (keeps_of_eq rfl rfl rfl rfl)
  case bpl | bmi | bvc | bvs | bcc | bcs | bne | beq =>
    exact branchIf_keeps _ _ _
  case pha =>
    exact runImplied_keeps (keeps_push _ _)

end Sys2Proof.Machine
end

