-- ==== Sys2Proof/Laws/PerInstr.lean ====
section
/-!
SUPPORT. Statements about every instruction as syntax, one lemma per constructor. The family `TableRow`: the instruction's
opcode byte has a row, in every profile that has the instruction, whose mnemonic, mode and profile are the instruction's,
and the row with the instruction's operand bytes gives it back.
-/

namespace Sys2Proof.Laws.TableRow

/-- The instruction is a row of the table, and its encoding is that row's opcode byte and operand bytes. -/
def Statement (i : Instr) : Prop :=
  ∃ (r : OpCode) (b1 b2 : Byte), (∀ p, WellFormed p i = true → lookup p r.code = some r) ∧ r.profile = i.profile ∧
    r.mnemonic = i.mnemonic ∧ r.mode = i.mode ∧ r.instr b1 b2 = i ∧ encode i = r.code :: [b1, b2].take r.operandLength

theorem of_lookup {i : Instr} {c : Byte} {r : OpCode} (b1 b2 : Byte) (h : lookup .extended c = some r)
    (hp : r.profile = i.profile) (hn : r.mnemonic = i.mnemonic) (hm : r.mode = i.mode) (hi : r.instr b1 b2 = i)
    (he : encode i = c :: [b1, b2].take r.operandLength) : Statement i := by
  have hc := lookup_code h
  refine ⟨r, b1, b2, fun p hw => ?_, hp, hn, hm, hi, by rw [hc, he]⟩
  rw [hc]
  exact lookup_of_extended h (by rw [hp]; exact hw)

/-- An instruction of format F3: its word is the pair of its bytes (R83). -/
theorem of_lookup_word {c : Byte} {r : OpCode} {build : Addr → Instr} (w : Addr) (h : lookup .extended c = some r)
    (hf : r.format = .f3 build) (hp : r.profile = (build w).profile) (hn : r.mnemonic = (build w).mnemonic)
    (hm : r.mode = (build w).mode) (he : encode (build w) = [c, loByte w, hiByte w]) : Statement (build w) :=
  of_lookup (loByte w) (hiByte w) h hp hn hm (by simp [OpCode.instr, hf])
    (by simp [OpCode.operandLength, OpCode.length, hf, he])

theorem ldaImm (b1 : Byte) : Statement (.ldaImm b1) := of_lookup (c := 0xA9) b1 0 rfl rfl rfl rfl rfl rfl
theorem ldaZp (b1 : Byte) : Statement (.ldaZp b1) := of_lookup (c := 0xA5) b1 0 rfl rfl rfl rfl rfl rfl
theorem ldaZpX (b1 : Byte) : Statement (.ldaZpX b1) := of_lookup (c := 0xB5) b1 0 rfl rfl rfl rfl rfl rfl
theorem ldaAbs (w : Addr) : Statement (.ldaAbs w) := of_lookup_word (c := 0xAD) w rfl rfl rfl rfl rfl rfl
theorem ldaAbsX (w : Addr) : Statement (.ldaAbsX w) := of_lookup_word (c := 0xBD) w rfl rfl rfl rfl rfl rfl
theorem ldaAbsY (w : Addr) : Statement (.ldaAbsY w) := of_lookup_word (c := 0xB9) w rfl rfl rfl rfl rfl rfl
theorem ldaIndX (b1 : Byte) : Statement (.ldaIndX b1) := of_lookup (c := 0xA1) b1 0 rfl rfl rfl rfl rfl rfl
theorem ldaIndY (b1 : Byte) : Statement (.ldaIndY b1) := of_lookup (c := 0xB1) b1 0 rfl rfl rfl rfl rfl rfl
theorem ldxImm (b1 : Byte) : Statement (.ldxImm b1) := of_lookup (c := 0xA2) b1 0 rfl rfl rfl rfl rfl rfl
theorem ldxZp (b1 : Byte) : Statement (.ldxZp b1) := of_lookup (c := 0xA6) b1 0 rfl rfl rfl rfl rfl rfl
theorem ldxZpY (b1 : Byte) : Statement (.ldxZpY b1) := of_lookup (c := 0xB6) b1 0 rfl rfl rfl rfl rfl rfl
theorem ldxAbs (w : Addr) : Statement (.ldxAbs w) := of_lookup_word (c := 0xAE) w rfl rfl rfl rfl rfl rfl
theorem ldxAbsY (w : Addr) : Statement (.ldxAbsY w) := of_lookup_word (c := 0xBE) w rfl rfl rfl rfl rfl rfl
theorem ldyImm (b1 : Byte) : Statement (.ldyImm b1) := of_lookup (c := 0xA0) b1 0 rfl rfl rfl rfl rfl rfl
theorem ldyZp (b1 : Byte) : Statement (.ldyZp b1) := of_lookup (c := 0xA4) b1 0 rfl rfl rfl rfl rfl rfl
theorem ldyZpX (b1 : Byte) : Statement (.ldyZpX b1) := of_lookup (c := 0xB4) b1 0 rfl rfl rfl rfl rfl rfl
theorem ldyAbs (w : Addr) : Statement (.ldyAbs w) := of_lookup_word (c := 0xAC) w rfl rfl rfl rfl rfl rfl
theorem ldyAbsX (w : Addr) : Statement (.ldyAbsX w) := of_lookup_word (c := 0xBC) w rfl rfl rfl rfl rfl rfl
theorem staZp (b1 : Byte) : Statement (.staZp b1) := of_lookup (c := 0x85) b1 0 rfl rfl rfl rfl rfl rfl
theorem staZpX (b1 : Byte) : Statement (.staZpX b1) := of_lookup (c := 0x95) b1 0 rfl rfl rfl rfl rfl rfl
theorem staAbs (w : Addr) : Statement (.staAbs w) := of_lookup_word (c := 0x8D) w rfl rfl rfl rfl rfl rfl
theorem staAbsX (w : Addr) : Statement (.staAbsX w) := of_lookup_word (c := 0x9D) w rfl rfl rfl rfl rfl rfl
theorem staAbsY (w : Addr) : Statement (.staAbsY w) := of_lookup_word (c := 0x99) w rfl rfl rfl rfl rfl rfl
theorem staIndX (b1 : Byte) : Statement (.staIndX b1) := of_lookup (c := 0x81) b1 0 rfl rfl rfl rfl rfl rfl
theorem staIndY (b1 : Byte) : Statement (.staIndY b1) := of_lookup (c := 0x91) b1 0 rfl rfl rfl rfl rfl rfl
theorem stxZp (b1 : Byte) : Statement (.stxZp b1) := of_lookup (c := 0x86) b1 0 rfl rfl rfl rfl rfl rfl
theorem stxZpY (b1 : Byte) : Statement (.stxZpY b1) := of_lookup (c := 0x96) b1 0 rfl rfl rfl rfl rfl rfl
theorem stxAbs (w : Addr) : Statement (.stxAbs w) := of_lookup_word (c := 0x8E) w rfl rfl rfl rfl rfl rfl
theorem styZp (b1 : Byte) : Statement (.styZp b1) := of_lookup (c := 0x84) b1 0 rfl rfl rfl rfl rfl rfl
theorem styZpX (b1 : Byte) : Statement (.styZpX b1) := of_lookup (c := 0x94) b1 0 rfl rfl rfl rfl rfl rfl
theorem styAbs (w : Addr) : Statement (.styAbs w) := of_lookup_word (c := 0x8C) w rfl rfl rfl rfl rfl rfl
theorem adcImm (b1 : Byte) : Statement (.adcImm b1) := of_lookup (c := 0x69) b1 0 rfl rfl rfl rfl rfl rfl
theorem adcZp (b1 : Byte) : Statement (.adcZp b1) := of_lookup (c := 0x65) b1 0 rfl rfl rfl rfl rfl rfl
theorem adcZpX (b1 : Byte) : Statement (.adcZpX b1) := of_lookup (c := 0x75) b1 0 rfl rfl rfl rfl rfl rfl
theorem adcAbs (w : Addr) : Statement (.adcAbs w) := of_lookup_word (c := 0x6D) w rfl rfl rfl rfl rfl rfl
theorem adcAbsX (w : Addr) : Statement (.adcAbsX w) := of_lookup_word (c := 0x7D) w rfl rfl rfl rfl rfl rfl
theorem adcAbsY (w : Addr) : Statement (.adcAbsY w) := of_lookup_word (c := 0x79) w rfl rfl rfl rfl rfl rfl
theorem adcIndX (b1 : Byte) : Statement (.adcIndX b1) := of_lookup (c := 0x61) b1 0 rfl rfl rfl rfl rfl rfl
theorem adcIndY (b1 : Byte) : Statement (.adcIndY b1) := of_lookup (c := 0x71) b1 0 rfl rfl rfl rfl rfl rfl
theorem sbcImm (b1 : Byte) : Statement (.sbcImm b1) := of_lookup (c := 0xE9) b1 0 rfl rfl rfl rfl rfl rfl
theorem sbcZp (b1 : Byte) : Statement (.sbcZp b1) := of_lookup (c := 0xE5) b1 0 rfl rfl rfl rfl rfl rfl
theorem sbcZpX (b1 : Byte) : Statement (.sbcZpX b1) := of_lookup (c := 0xF5) b1 0 rfl rfl rfl rfl rfl rfl
theorem sbcAbs (w : Addr) : Statement (.sbcAbs w) := of_lookup_word (c := 0xED) w rfl rfl rfl rfl rfl rfl
theorem sbcAbsX (w : Addr) : Statement (.sbcAbsX w) := of_lookup_word (c := 0xFD) w rfl rfl rfl rfl rfl rfl
theorem sbcAbsY (w : Addr) : Statement (.sbcAbsY w) := of_lookup_word (c := 0xF9) w rfl rfl rfl rfl rfl rfl
theorem sbcIndX (b1 : Byte) : Statement (.sbcIndX b1) := of_lookup (c := 0xE1) b1 0 rfl rfl rfl rfl rfl rfl
theorem sbcIndY (b1 : Byte) : Statement (.sbcIndY b1) := of_lookup (c := 0xF1) b1 0 rfl rfl rfl rfl rfl rfl
theorem inx : Statement .inx := of_lookup (c := 0xE8) 0 0 rfl rfl rfl rfl rfl rfl
theorem iny : Statement .iny := of_lookup (c := 0xC8) 0 0 rfl rfl rfl rfl rfl rfl
theorem dex : Statement .dex := of_lookup (c := 0xCA) 0 0 rfl rfl rfl rfl rfl rfl
theorem dey : Statement .dey := of_lookup (c := 0x88) 0 0 rfl rfl rfl rfl rfl rfl
theorem incZp (b1 : Byte) : Statement (.incZp b1) := of_lookup (c := 0xE6) b1 0 rfl rfl rfl rfl rfl rfl
theorem incZpX (b1 : Byte) : Statement (.incZpX b1) := of_lookup (c := 0xF6) b1 0 rfl rfl rfl rfl rfl rfl
theorem incAbs (w : Addr) : Statement (.incAbs w) := of_lookup_word (c := 0xEE) w rfl rfl rfl rfl rfl rfl
theorem incAbsX (w : Addr) : Statement (.incAbsX w) := of_lookup_word (c := 0xFE) w rfl rfl rfl rfl rfl rfl
theorem decZp (b1 : Byte) : Statement (.decZp b1) := of_lookup (c := 0xC6) b1 0 rfl rfl rfl rfl rfl rfl
theorem decZpX (b1 : Byte) : Statement (.decZpX b1) := of_lookup (c := 0xD6) b1 0 rfl rfl rfl rfl rfl rfl
theorem decAbs (w : Addr) : Statement (.decAbs w) := of_lookup_word (c := 0xCE) w rfl rfl rfl rfl rfl rfl
theorem decAbsX (w : Addr) : Statement (.decAbsX w) := of_lookup_word (c := 0xDE) w rfl rfl rfl rfl rfl rfl
theorem cmpImm (b1 : Byte) : Statement (.cmpImm b1) := of_lookup (c := 0xC9) b1 0 rfl rfl rfl rfl rfl rfl
theorem cmpZp (b1 : Byte) : Statement (.cmpZp b1) := of_lookup (c := 0xC5) b1 0 rfl rfl rfl rfl rfl rfl
theorem cmpZpX (b1 : Byte) : Statement (.cmpZpX b1) := of_lookup (c := 0xD5) b1 0 rfl rfl rfl rfl rfl rfl
theorem cmpAbs (w : Addr) : Statement (.cmpAbs w) := of_lookup_word (c := 0xCD) w rfl rfl rfl rfl rfl rfl
theorem cmpAbsX (w : Addr) : Statement (.cmpAbsX w) := of_lookup_word (c := 0xDD) w rfl rfl rfl rfl rfl rfl
theorem cmpAbsY (w : Addr) : Statement (.cmpAbsY w) := of_lookup_word (c := 0xD9) w rfl rfl rfl rfl rfl rfl
theorem cmpIndX (b1 : Byte) : Statement (.cmpIndX b1) := of_lookup (c := 0xC1) b1 0 rfl rfl rfl rfl rfl rfl
theorem cmpIndY (b1 : Byte) : Statement (.cmpIndY b1) := of_lookup (c := 0xD1) b1 0 rfl rfl rfl rfl rfl rfl
theorem cpxImm (b1 : Byte) : Statement (.cpxImm b1) := of_lookup (c := 0xE0) b1 0 rfl rfl rfl rfl rfl rfl
theorem cpxZp (b1 : Byte) : Statement (.cpxZp b1) := of_lookup (c := 0xE4) b1 0 rfl rfl rfl rfl rfl rfl
theorem cpxAbs (w : Addr) : Statement (.cpxAbs w) := of_lookup_word (c := 0xEC) w rfl rfl rfl rfl rfl rfl
theorem cpyImm (b1 : Byte) : Statement (.cpyImm b1) := of_lookup (c := 0xC0) b1 0 rfl rfl rfl rfl rfl rfl
theorem cpyZp (b1 : Byte) : Statement (.cpyZp b1) := of_lookup (c := 0xC4) b1 0 rfl rfl rfl rfl rfl rfl
theorem cpyAbs (w : Addr) : Statement (.cpyAbs w) := of_lookup_word (c := 0xCC) w rfl rfl rfl rfl rfl rfl
theorem andImm (b1 : Byte) : Statement (.andImm b1) := of_lookup (c := 0x29) b1 0 rfl rfl rfl rfl rfl rfl
theorem andZp (b1 : Byte) : Statement (.andZp b1) := of_lookup (c := 0x25) b1 0 rfl rfl rfl rfl rfl rfl
theorem andZpX (b1 : Byte) : Statement (.andZpX b1) := of_lookup (c := 0x35) b1 0 rfl rfl rfl rfl rfl rfl
theorem andAbs (w : Addr) : Statement (.andAbs w) := of_lookup_word (c := 0x2D) w rfl rfl rfl rfl rfl rfl
theorem andAbsX (w : Addr) : Statement (.andAbsX w) := of_lookup_word (c := 0x3D) w rfl rfl rfl rfl rfl rfl
theorem andAbsY (w : Addr) : Statement (.andAbsY w) := of_lookup_word (c := 0x39) w rfl rfl rfl rfl rfl rfl
theorem andIndX (b1 : Byte) : Statement (.andIndX b1) := of_lookup (c := 0x21) b1 0 rfl rfl rfl rfl rfl rfl
theorem andIndY (b1 : Byte) : Statement (.andIndY b1) := of_lookup (c := 0x31) b1 0 rfl rfl rfl rfl rfl rfl
theorem oraImm (b1 : Byte) : Statement (.oraImm b1) := of_lookup (c := 0x09) b1 0 rfl rfl rfl rfl rfl rfl
theorem oraZp (b1 : Byte) : Statement (.oraZp b1) := of_lookup (c := 0x05) b1 0 rfl rfl rfl rfl rfl rfl
theorem oraZpX (b1 : Byte) : Statement (.oraZpX b1) := of_lookup (c := 0x15) b1 0 rfl rfl rfl rfl rfl rfl
theorem oraAbs (w : Addr) : Statement (.oraAbs w) := of_lookup_word (c := 0x0D) w rfl rfl rfl rfl rfl rfl
theorem oraAbsX (w : Addr) : Statement (.oraAbsX w) := of_lookup_word (c := 0x1D) w rfl rfl rfl rfl rfl rfl
theorem oraAbsY (w : Addr) : Statement (.oraAbsY w) := of_lookup_word (c := 0x19) w rfl rfl rfl rfl rfl rfl
theorem oraIndX (b1 : Byte) : Statement (.oraIndX b1) := of_lookup (c := 0x01) b1 0 rfl rfl rfl rfl rfl rfl
theorem oraIndY (b1 : Byte) : Statement (.oraIndY b1) := of_lookup (c := 0x11) b1 0 rfl rfl rfl rfl rfl rfl
theorem eorImm (b1 : Byte) : Statement (.eorImm b1) := of_lookup (c := 0x49) b1 0 rfl rfl rfl rfl rfl rfl
theorem eorZp (b1 : Byte) : Statement (.eorZp b1) := of_lookup (c := 0x45) b1 0 rfl rfl rfl rfl rfl rfl
theorem eorZpX (b1 : Byte) : Statement (.eorZpX b1) := of_lookup (c := 0x55) b1 0 rfl rfl rfl rfl rfl rfl
theorem eorAbs (w : Addr) : Statement (.eorAbs w) := of_lookup_word (c := 0x4D) w rfl rfl rfl rfl rfl rfl
theorem eorAbsX (w : Addr) : Statement (.eorAbsX w) := of_lookup_word (c := 0x5D) w rfl rfl rfl rfl rfl rfl
theorem eorAbsY (w : Addr) : Statement (.eorAbsY w) := of_lookup_word (c := 0x59) w rfl rfl rfl rfl rfl rfl
theorem eorIndX (b1 : Byte) : Statement (.eorIndX b1) := of_lookup (c := 0x41) b1 0 rfl rfl rfl rfl rfl rfl
theorem eorIndY (b1 : Byte) : Statement (.eorIndY b1) := of_lookup (c := 0x51) b1 0 rfl rfl rfl rfl rfl rfl
theorem bitZp (b1 : Byte) : Statement (.bitZp b1) := of_lookup (c := 0x24) b1 0 rfl rfl rfl rfl rfl rfl
theorem bitAbs (w : Addr) : Statement (.bitAbs w) := of_lookup_word (c := 0x2C) w rfl rfl rfl rfl rfl rfl
theorem aslZp (b1 : Byte) : Statement (.aslZp b1) := of_lookup (c := 0x06) b1 0 rfl rfl rfl rfl rfl rfl
theorem aslZpX (b1 : Byte) : Statement (.aslZpX b1) := of_lookup (c := 0x16) b1 0 rfl rfl rfl rfl rfl rfl
theorem aslAbs (w : Addr) : Statement (.aslAbs w) := of_lookup_word (c := 0x0E) w rfl rfl rfl rfl rfl rfl
theorem aslAbsX (w : Addr) : Statement (.aslAbsX w) := of_lookup_word (c := 0x1E) w rfl rfl rfl rfl rfl rfl
theorem aslA : Statement .aslA := of_lookup (c := 0x0A) 0 0 rfl rfl rfl rfl rfl rfl
theorem lsrZp (b1 : Byte) : Statement (.lsrZp b1) := of_lookup (c := 0x46) b1 0 rfl rfl rfl rfl rfl rfl
theorem lsrZpX (b1 : Byte) : Statement (.lsrZpX b1) := of_lookup (c := 0x56) b1 0 rfl rfl rfl rfl rfl rfl
theorem lsrAbs (w : Addr) : Statement (.lsrAbs w) := of_lookup_word (c := 0x4E) w rfl rfl rfl rfl rfl rfl
theorem lsrAbsX (w : Addr) : Statement (.lsrAbsX w) := of_lookup_word (c := 0x5E) w rfl rfl rfl rfl rfl rfl
theorem lsrA : Statement .lsrA := of_lookup (c := 0x4A) 0 0 rfl rfl rfl rfl rfl rfl
theorem rolZp (b1 : Byte) : Statement (.rolZp b1) := of_lookup (c := 0x26) b1 0 rfl rfl rfl rfl rfl rfl
theorem rolZpX (b1 : Byte) : Statement (.rolZpX b1) := of_lookup (c := 0x36) b1 0 rfl rfl rfl rfl rfl rfl
theorem rolAbs (w : Addr) : Statement (.rolAbs w) := of_lookup_word (c := 0x2E) w rfl rfl rfl rfl rfl rfl
theorem rolAbsX (w : Addr) : Statement (.rolAbsX w) := of_lookup_word (c := 0x3E) w rfl rfl rfl rfl rfl rfl
theorem rolA : Statement .rolA := of_lookup (c := 0x2A) 0 0 rfl rfl rfl rfl rfl rfl
theorem rorZp (b1 : Byte) : Statement (.rorZp b1) := of_lookup (c := 0x66) b1 0 rfl rfl rfl rfl rfl rfl
theorem rorZpX (b1 : Byte) : Statement (.rorZpX b1) := of_lookup (c := 0x76) b1 0 rfl rfl rfl rfl rfl rfl
theorem rorAbs (w : Addr) : Statement (.rorAbs w) := of_lookup_word (c := 0x6E) w rfl rfl rfl rfl rfl rfl
theorem rorAbsX (w : Addr) : Statement (.rorAbsX w) := of_lookup_word (c := 0x7E) w rfl rfl rfl rfl rfl rfl
theorem rorA : Statement .rorA := of_lookup (c := 0x6A) 0 0 rfl rfl rfl rfl rfl rfl
theorem brk : Statement .brk := of_lookup (c := 0x00) 0 0 rfl rfl rfl rfl rfl rfl
theorem bpl (b1 : Byte) : Statement (.bpl b1) := of_lookup (c := 0x10) b1 0 rfl rfl rfl rfl rfl rfl
theorem bmi (b1 : Byte) : Statement (.bmi b1) := of_lookup (c := 0x30) b1 0 rfl rfl rfl rfl rfl rfl
theorem bvc (b1 : Byte) : Statement (.bvc b1) := of_lookup (c := 0x50) b1 0 rfl rfl rfl rfl rfl rfl
theorem bvs (b1 : Byte) : Statement (.bvs b1) := of_lookup (c := 0x70) b1 0 rfl rfl rfl rfl rfl rfl
theorem bcc (b1 : Byte) : Statement (.bcc b1) := of_lookup (c := 0x90) b1 0 rfl rfl rfl rfl rfl rfl
theorem bcs (b1 : Byte) : Statement (.bcs b1) := of_lookup (c := 0xB0) b1 0 rfl rfl rfl rfl rfl rfl
theorem bne (b1 : Byte) : Statement (.bne b1) := of_lookup (c := 0xD0) b1 0 rfl rfl rfl rfl rfl rfl
theorem beq (b1 : Byte) : Statement (.beq b1) := of_lookup (c := 0xF0) b1 0 rfl rfl rfl rfl rfl rfl
theorem jmpAbs (w : Addr) : Statement (.jmpAbs w) := of_lookup_word (c := 0x4C) w rfl rfl rfl rfl rfl rfl
theorem jmpInd (w : Addr) : Statement (.jmpInd w) := of_lookup_word (c := 0x6C) w rfl rfl rfl rfl rfl rfl
theorem jsr (w : Addr) : Statement (.jsr w) := of_lookup_word (c := 0x20) w rfl rfl rfl rfl rfl rfl
theorem rts : Statement .rts := of_lookup (c := 0x60) 0 0 rfl rfl rfl rfl rfl rfl
theorem pha : Statement .pha := of_lookup (c := 0x48) 0 0 rfl rfl rfl rfl rfl rfl
theorem pla : Statement .pla := of_lookup (c := 0x68) 0 0 rfl rfl rfl rfl rfl rfl
theorem txs : Statement .txs := of_lookup (c := 0x9A) 0 0 rfl rfl rfl rfl rfl rfl
theorem tsx : Statement .tsx := of_lookup (c := 0xBA) 0 0 rfl rfl rfl rfl rfl rfl
theorem tax : Statement .tax := of_lookup (c := 0xAA) 0 0 rfl rfl rfl rfl rfl rfl
theorem tay : Statement .tay := of_lookup (c := 0xA8) 0 0 rfl rfl rfl rfl rfl rfl
theorem txa : Statement .txa := of_lookup (c := 0x8A) 0 0 rfl rfl rfl rfl rfl rfl
theorem tya : Statement .tya := of_lookup (c := 0x98) 0 0 rfl rfl rfl rfl rfl rfl
theorem clc : Statement .clc := of_lookup (c := 0x18) 0 0 rfl rfl rfl rfl rfl rfl
theorem sec : Statement .sec := of_lookup (c := 0x38) 0 0 rfl rfl rfl rfl rfl rfl
theorem clv : Statement .clv := of_lookup (c := 0xB8) 0 0 rfl rfl rfl rfl rfl rfl
theorem nop : Statement .nop := of_lookup (c := 0xEA) 0 0 rfl rfl rfl rfl rfl rfl

end Sys2Proof.Laws.TableRow
end

