-- ==== Sys2Proof/Laws/Step.lean ====
section
/-!
SUPPORT. Everything a step can do, said once (R240, R258, R275), and that `State.reset` is canonical.
-/

namespace Sys2Proof.Machine

theorem reset_memory_wf : State.reset.mem.wf = true := rfl

/-- The CPU's stages: an absent byte is recorded as a fault, or the row's instruction runs, `pc` being the operand pointer. -/
theorem cpuStep_cases (s : State) :
    (lookup s.cfg.profile (s.read s.pc) = none ∧
      cpuStep s = .next ((s.setPc (s.pc + 1)).setRun (.faulted (.unrecognizedOpcode (s.read s.pc))))) ∨
    ∃ r, lookup s.cfg.profile (s.read s.pc) = some r ∧
      cpuStep s = exec (r.instr (s.read (s.pc + 1)) (s.read (s.pc + 1 + 1))) (s.setPc (s.pc + 1)) := by
  cases h : lookup s.cfg.profile (s.read s.pc) with
  | none => exact .inl ⟨rfl, by simp only [cpuStep, h]; rfl⟩
  | some r => exact .inr ⟨r, rfl, by simp only [cpuStep, h]; rfl⟩

/-- A full step: the host ended the run, or the CPU's stages ran on the state after the host's turn. -/
theorem fullStep_cases (s : State) :
    (fullStep s = .next (hostTurn s) ∧ (hostTurn s).run ≠ .running) ∨
      (fullStep s = cpuStep (hostTurn s) ∧ (hostTurn s).run = .running) := by
  unfold fullStep
  cases h : (hostTurn s).run with
  | running => exact .inr ⟨by simp [h], rfl⟩
  | idle => exact .inl ⟨by simp [h], by simp⟩
  | halted => exact .inl ⟨by simp [h], by simp⟩
  | faulted f => exact .inl ⟨by simp [h], by simp⟩

/-- A step of a running machine is a full step. -/
theorem step_of_running {s : State} (h : s.run = .running) : step s = fullStep s := by
  unfold step runStep; rw [h]

/-- A step of an idle machine starts the run (R275). -/
theorem step_of_idle {s : State} (h : s.run = .idle) : step s = fullStep (s.setRun .running) := by
  unfold step runStep; rw [h]; rfl

theorem step_of_halted {s : State} (h : s.run = .halted) : step s = .refused .runEnded := by
  unfold step runStep; rw [h]

theorem step_of_faulted {s : State} {f : Fault} (h : s.run = .faulted f) : step s = .fault f := by
  unfold step runStep; rw [h]

/-- A step that answers a next state starts from `running`, or from `idle` with the run started (R275). -/
theorem step_cases {s t : State} (h : step s = .next t) :
    (s.run = .running ∨ s.run = .idle) ∧ fullStep (s.setRun .running) = .next t := by
  unfold step runStep at h
  split at h
  · rename_i hr; exact ⟨.inr hr, h⟩
  · rename_i hr
    refine ⟨.inl hr, ?_⟩
    rwa [show s.setRun .running = s from by rw [← hr]; rfl]
  · cases h
  · cases h

/-- The CPU's stages keep the configuration, the host's moves and canonical memory. -/
theorem cpuStep_keeps {s t : State} (h : cpuStep s = .next t) : Keeps s t := by
  rcases cpuStep_cases s with ⟨-, hs⟩ | ⟨r, -, hs⟩
  · rw [hs] at h
    cases h
    exact keeps_of_eq rfl rfl rfl rfl
  · rw [hs] at h
    obtain ⟨u, hu, k⟩ := exec_keeps (r.instr (s.read (s.pc + 1)) (s.read (s.pc + 1 + 1))) (s.setPc (s.pc + 1))
    rw [hu] at h
    cases h
    exact (keeps_of_eq rfl rfl rfl rfl : Keeps s (s.setPc (s.pc + 1))).trans k

end Sys2Proof.Machine
end

