-- ==== Sys2Proof/Tests/Slice0.lean ====
section
/-!
SUPPORT. Tests. The words and the expected results are the spec's: the opcode bytes of R101 and R104 (`30_encoding.md`) with
operand bytes in the order of R83, and the vectors of `95_test_vectors.md` (named by their id there). The last part shows, for
every statement of the obligations that has hypotheses, a concrete instance that meets them.
-/

namespace Sys2Proof.Tests

open Sys2Proof.Machine

/-- A running machine of profile `p` with bytes at `pc` and every other parameter at the spec's default (the setting of the
vectors). -/
def running (p : Profile) (pc : Addr) (bytes : List Byte) : State :=
  { State.new { Config.specDefault with profile := p } with
    pc := pc
    mem := Memory.writeBytes [] pc bytes
    run := .running }

/-- A view of the state after one step, if the step answers one. -/
def after (s : State) (view : State → List Nat) : Option (List Nat) :=
  match step s with
  | .next t => some (view t)
  | _ => none

/-- A flag as a number. -/
def bit (b : Bool) : Nat := if b then 1 else 0

/-! ## Well-formedness: an ill-formed term for its one check, the profile -/

theorem test_wellFormed_refuses_extended_row_under_core : WellFormed .core (.jmpAbs 0x1234) = false := by decide
theorem test_wellFormed_refuses_extended_implied_under_core : WellFormed .core .nop = false := by decide
theorem test_wellFormed_accepts_core_row_under_core : WellFormed .core (.ldaImm 0x05) = true := by decide
theorem test_wellFormed_accepts_every_row_under_extended :
    WellFormed .extended (.jmpAbs 0x1234) = true ∧ WellFormed .extended (.ldaImm 0x05) = true := by decide
theorem test_decode_refuses_extended_byte_under_core :
    decode .core [0x4C, 0x34, 0x12] = .error (.unrecognizedOpcode 0x4C) := by rfl
theorem test_decode_refuses_illegal_byte : decode .extended [0x02, 0x00] = .error (.unrecognizedOpcode 0x02) := by rfl

/-! ## Decoding: every row of the table from its written-out bytes -/

theorem test_decode_lda :
    (decode .core [0xA9, 0x9C, 0x77]).toOption = some (.ldaImm 0x9C, [0x77]) ∧
    (decode .core [0xA5, 0x9C, 0x77]).toOption = some (.ldaZp 0x9C, [0x77]) ∧
    (decode .core [0xB5, 0x9C, 0x77]).toOption = some (.ldaZpX 0x9C, [0x77]) ∧
    (decode .core [0xAD, 0x34, 0x92, 0x77]).toOption = some (.ldaAbs 0x9234, [0x77]) ∧
    (decode .core [0xBD, 0x34, 0x92, 0x77]).toOption = some (.ldaAbsX 0x9234, [0x77]) ∧
    (decode .core [0xB9, 0x34, 0x92, 0x77]).toOption = some (.ldaAbsY 0x9234, [0x77]) ∧
    (decode .core [0xA1, 0x9C, 0x77]).toOption = some (.ldaIndX 0x9C, [0x77]) ∧
    (decode .core [0xB1, 0x9C, 0x77]).toOption = some (.ldaIndY 0x9C, [0x77]) := by
  decide

theorem test_decode_ldx_ldy :
    (decode .core [0xA2, 0x9C, 0x77]).toOption = some (.ldxImm 0x9C, [0x77]) ∧
    (decode .core [0xA6, 0x9C, 0x77]).toOption = some (.ldxZp 0x9C, [0x77]) ∧
    (decode .core [0xB6, 0x9C, 0x77]).toOption = some (.ldxZpY 0x9C, [0x77]) ∧
    (decode .core [0xAE, 0x34, 0x92, 0x77]).toOption = some (.ldxAbs 0x9234, [0x77]) ∧
    (decode .core [0xBE, 0x34, 0x92, 0x77]).toOption = some (.ldxAbsY 0x9234, [0x77]) ∧
    (decode .core [0xA0, 0x9C, 0x77]).toOption = some (.ldyImm 0x9C, [0x77]) ∧
    (decode .core [0xA4, 0x9C, 0x77]).toOption = some (.ldyZp 0x9C, [0x77]) ∧
    (decode .core [0xB4, 0x9C, 0x77]).toOption = some (.ldyZpX 0x9C, [0x77]) ∧
    (decode .core [0xAC, 0x34, 0x92, 0x77]).toOption = some (.ldyAbs 0x9234, [0x77]) ∧
    (decode .core [0xBC, 0x34, 0x92, 0x77]).toOption = some (.ldyAbsX 0x9234, [0x77]) := by
  decide

theorem test_decode_sta :
    (decode .core [0x85, 0x9C, 0x77]).toOption = some (.staZp 0x9C, [0x77]) ∧
    (decode .core [0x95, 0x9C, 0x77]).toOption = some (.staZpX 0x9C, [0x77]) ∧
    (decode .core [0x8D, 0x34, 0x92, 0x77]).toOption = some (.staAbs 0x9234, [0x77]) ∧
    (decode .core [0x9D, 0x34, 0x92, 0x77]).toOption = some (.staAbsX 0x9234, [0x77]) ∧
    (decode .core [0x99, 0x34, 0x92, 0x77]).toOption = some (.staAbsY 0x9234, [0x77]) ∧
    (decode .core [0x81, 0x9C, 0x77]).toOption = some (.staIndX 0x9C, [0x77]) ∧
    (decode .core [0x91, 0x9C, 0x77]).toOption = some (.staIndY 0x9C, [0x77]) := by
  decide

theorem test_decode_stx_sty :
    (decode .extended [0x86, 0x9C, 0x77]).toOption = some (.stxZp 0x9C, [0x77]) ∧
    (decode .extended [0x96, 0x9C, 0x77]).toOption = some (.stxZpY 0x9C, [0x77]) ∧
    (decode .extended [0x8E, 0x34, 0x92, 0x77]).toOption = some (.stxAbs 0x9234, [0x77]) ∧
    (decode .extended [0x84, 0x9C, 0x77]).toOption = some (.styZp 0x9C, [0x77]) ∧
    (decode .extended [0x94, 0x9C, 0x77]).toOption = some (.styZpX 0x9C, [0x77]) ∧
    (decode .extended [0x8C, 0x34, 0x92, 0x77]).toOption = some (.styAbs 0x9234, [0x77]) := by
  decide

theorem test_decode_adc :
    (decode .core [0x69, 0x9C, 0x77]).toOption = some (.adcImm 0x9C, [0x77]) ∧
    (decode .core [0x65, 0x9C, 0x77]).toOption = some (.adcZp 0x9C, [0x77]) ∧
    (decode .core [0x75, 0x9C, 0x77]).toOption = some (.adcZpX 0x9C, [0x77]) ∧
    (decode .core [0x6D, 0x34, 0x92, 0x77]).toOption = some (.adcAbs 0x9234, [0x77]) ∧
    (decode .core [0x7D, 0x34, 0x92, 0x77]).toOption = some (.adcAbsX 0x9234, [0x77]) ∧
    (decode .core [0x79, 0x34, 0x92, 0x77]).toOption = some (.adcAbsY 0x9234, [0x77]) ∧
    (decode .core [0x61, 0x9C, 0x77]).toOption = some (.adcIndX 0x9C, [0x77]) ∧
    (decode .core [0x71, 0x9C, 0x77]).toOption = some (.adcIndY 0x9C, [0x77]) := by
  decide

theorem test_decode_sbc :
    (decode .core [0xE9, 0x9C, 0x77]).toOption = some (.sbcImm 0x9C, [0x77]) ∧
    (decode .core [0xE5, 0x9C, 0x77]).toOption = some (.sbcZp 0x9C, [0x77]) ∧
    (decode .core [0xF5, 0x9C, 0x77]).toOption = some (.sbcZpX 0x9C, [0x77]) ∧
    (decode .core [0xED, 0x34, 0x92, 0x77]).toOption = some (.sbcAbs 0x9234, [0x77]) ∧
    (decode .core [0xFD, 0x34, 0x92, 0x77]).toOption = some (.sbcAbsX 0x9234, [0x77]) ∧
    (decode .core [0xF9, 0x34, 0x92, 0x77]).toOption = some (.sbcAbsY 0x9234, [0x77]) ∧
    (decode .core [0xE1, 0x9C, 0x77]).toOption = some (.sbcIndX 0x9C, [0x77]) ∧
    (decode .core [0xF1, 0x9C, 0x77]).toOption = some (.sbcIndY 0x9C, [0x77]) := by
  decide

theorem test_decode_register_counts :
    (decode .core [0xE8, 0x77]).toOption = some (.inx, [0x77]) ∧
    (decode .core [0xC8, 0x77]).toOption = some (.iny, [0x77]) ∧
    (decode .extended [0xCA, 0x77]).toOption = some (.dex, [0x77]) ∧
    (decode .extended [0x88, 0x77]).toOption = some (.dey, [0x77]) := by
  decide

theorem test_decode_inc_dec :
    (decode .extended [0xE6, 0x9C, 0x77]).toOption = some (.incZp 0x9C, [0x77]) ∧
    (decode .extended [0xF6, 0x9C, 0x77]).toOption = some (.incZpX 0x9C, [0x77]) ∧
    (decode .extended [0xEE, 0x34, 0x92, 0x77]).toOption = some (.incAbs 0x9234, [0x77]) ∧
    (decode .extended [0xFE, 0x34, 0x92, 0x77]).toOption = some (.incAbsX 0x9234, [0x77]) ∧
    (decode .extended [0xC6, 0x9C, 0x77]).toOption = some (.decZp 0x9C, [0x77]) ∧
    (decode .extended [0xD6, 0x9C, 0x77]).toOption = some (.decZpX 0x9C, [0x77]) ∧
    (decode .extended [0xCE, 0x34, 0x92, 0x77]).toOption = some (.decAbs 0x9234, [0x77]) ∧
    (decode .extended [0xDE, 0x34, 0x92, 0x77]).toOption = some (.decAbsX 0x9234, [0x77]) := by
  decide

theorem test_decode_cmp :
    (decode .extended [0xC9, 0x9C, 0x77]).toOption = some (.cmpImm 0x9C, [0x77]) ∧
    (decode .extended [0xC5, 0x9C, 0x77]).toOption = some (.cmpZp 0x9C, [0x77]) ∧
    (decode .extended [0xD5, 0x9C, 0x77]).toOption = some (.cmpZpX 0x9C, [0x77]) ∧
    (decode .extended [0xCD, 0x34, 0x92, 0x77]).toOption = some (.cmpAbs 0x9234, [0x77]) ∧
    (decode .extended [0xDD, 0x34, 0x92, 0x77]).toOption = some (.cmpAbsX 0x9234, [0x77]) ∧
    (decode .extended [0xD9, 0x34, 0x92, 0x77]).toOption = some (.cmpAbsY 0x9234, [0x77]) ∧
    (decode .extended [0xC1, 0x9C, 0x77]).toOption = some (.cmpIndX 0x9C, [0x77]) ∧
    (decode .extended [0xD1, 0x9C, 0x77]).toOption = some (.cmpIndY 0x9C, [0x77]) := by
  decide

theorem test_decode_cpx_cpy :
    (decode .extended [0xE0, 0x9C, 0x77]).toOption = some (.cpxImm 0x9C, [0x77]) ∧
    (decode .extended [0xE4, 0x9C, 0x77]).toOption = some (.cpxZp 0x9C, [0x77]) ∧
    (decode .extended [0xEC, 0x34, 0x92, 0x77]).toOption = some (.cpxAbs 0x9234, [0x77]) ∧
    (decode .extended [0xC0, 0x9C, 0x77]).toOption = some (.cpyImm 0x9C, [0x77]) ∧
    (decode .extended [0xC4, 0x9C, 0x77]).toOption = some (.cpyZp 0x9C, [0x77]) ∧
    (decode .extended [0xCC, 0x34, 0x92, 0x77]).toOption = some (.cpyAbs 0x9234, [0x77]) := by
  decide

theorem test_decode_and :
    (decode .core [0x29, 0x9C, 0x77]).toOption = some (.andImm 0x9C, [0x77]) ∧
    (decode .core [0x25, 0x9C, 0x77]).toOption = some (.andZp 0x9C, [0x77]) ∧
    (decode .core [0x35, 0x9C, 0x77]).toOption = some (.andZpX 0x9C, [0x77]) ∧
    (decode .core [0x2D, 0x34, 0x92, 0x77]).toOption = some (.andAbs 0x9234, [0x77]) ∧
    (decode .core [0x3D, 0x34, 0x92, 0x77]).toOption = some (.andAbsX 0x9234, [0x77]) ∧
    (decode .core [0x39, 0x34, 0x92, 0x77]).toOption = some (.andAbsY 0x9234, [0x77]) ∧
    (decode .core [0x21, 0x9C, 0x77]).toOption = some (.andIndX 0x9C, [0x77]) ∧
    (decode .core [0x31, 0x9C, 0x77]).toOption = some (.andIndY 0x9C, [0x77]) := by
  decide

theorem test_decode_ora :
    (decode .core [0x09, 0x9C, 0x77]).toOption = some (.oraImm 0x9C, [0x77]) ∧
    (decode .core [0x05, 0x9C, 0x77]).toOption = some (.oraZp 0x9C, [0x77]) ∧
    (decode .core [0x15, 0x9C, 0x77]).toOption = some (.oraZpX 0x9C, [0x77]) ∧
    (decode .core [0x0D, 0x34, 0x92, 0x77]).toOption = some (.oraAbs 0x9234, [0x77]) ∧
    (decode .core [0x1D, 0x34, 0x92, 0x77]).toOption = some (.oraAbsX 0x9234, [0x77]) ∧
    (decode .core [0x19, 0x34, 0x92, 0x77]).toOption = some (.oraAbsY 0x9234, [0x77]) ∧
    (decode .core [0x01, 0x9C, 0x77]).toOption = some (.oraIndX 0x9C, [0x77]) ∧
    (decode .core [0x11, 0x9C, 0x77]).toOption = some (.oraIndY 0x9C, [0x77]) := by
  decide

theorem test_decode_eor :
    (decode .core [0x49, 0x9C, 0x77]).toOption = some (.eorImm 0x9C, [0x77]) ∧
    (decode .core [0x45, 0x9C, 0x77]).toOption = some (.eorZp 0x9C, [0x77]) ∧
    (decode .core [0x55, 0x9C, 0x77]).toOption = some (.eorZpX 0x9C, [0x77]) ∧
    (decode .core [0x4D, 0x34, 0x92, 0x77]).toOption = some (.eorAbs 0x9234, [0x77]) ∧
    (decode .core [0x5D, 0x34, 0x92, 0x77]).toOption = some (.eorAbsX 0x9234, [0x77]) ∧
    (decode .core [0x59, 0x34, 0x92, 0x77]).toOption = some (.eorAbsY 0x9234, [0x77]) ∧
    (decode .core [0x41, 0x9C, 0x77]).toOption = some (.eorIndX 0x9C, [0x77]) ∧
    (decode .core [0x51, 0x9C, 0x77]).toOption = some (.eorIndY 0x9C, [0x77]) := by
  decide

theorem test_decode_bit :
    (decode .extended [0x24, 0x9C, 0x77]).toOption = some (.bitZp 0x9C, [0x77]) ∧
    (decode .extended [0x2C, 0x34, 0x92, 0x77]).toOption = some (.bitAbs 0x9234, [0x77]) := by
  decide

theorem test_decode_asl_lsr :
    (decode .core [0x06, 0x9C, 0x77]).toOption = some (.aslZp 0x9C, [0x77]) ∧
    (decode .core [0x16, 0x9C, 0x77]).toOption = some (.aslZpX 0x9C, [0x77]) ∧
    (decode .core [0x0E, 0x34, 0x92, 0x77]).toOption = some (.aslAbs 0x9234, [0x77]) ∧
    (decode .core [0x1E, 0x34, 0x92, 0x77]).toOption = some (.aslAbsX 0x9234, [0x77]) ∧
    (decode .extended [0x0A, 0x77]).toOption = some (.aslA, [0x77]) ∧
    (decode .extended [0x46, 0x9C, 0x77]).toOption = some (.lsrZp 0x9C, [0x77]) ∧
    (decode .extended [0x56, 0x9C, 0x77]).toOption = some (.lsrZpX 0x9C, [0x77]) ∧
    (decode .extended [0x4E, 0x34, 0x92, 0x77]).toOption = some (.lsrAbs 0x9234, [0x77]) ∧
    (decode .extended [0x5E, 0x34, 0x92, 0x77]).toOption = some (.lsrAbsX 0x9234, [0x77]) ∧
    (decode .extended [0x4A, 0x77]).toOption = some (.lsrA, [0x77]) := by
  decide

theorem test_decode_rol_ror :
    (decode .extended [0x26, 0x9C, 0x77]).toOption = some (.rolZp 0x9C, [0x77]) ∧
    (decode .extended [0x36, 0x9C, 0x77]).toOption = some (.rolZpX 0x9C, [0x77]) ∧
    (decode .extended [0x2E, 0x34, 0x92, 0x77]).toOption = some (.rolAbs 0x9234, [0x77]) ∧
    (decode .extended [0x3E, 0x34, 0x92, 0x77]).toOption = some (.rolAbsX 0x9234, [0x77]) ∧
    (decode .extended [0x2A, 0x77]).toOption = some (.rolA, [0x77]) ∧
    (decode .extended [0x66, 0x9C, 0x77]).toOption = some (.rorZp 0x9C, [0x77]) ∧
    (decode .extended [0x76, 0x9C, 0x77]).toOption = some (.rorZpX 0x9C, [0x77]) ∧
    (decode .extended [0x6E, 0x34, 0x92, 0x77]).toOption = some (.rorAbs 0x9234, [0x77]) ∧
    (decode .extended [0x7E, 0x34, 0x92, 0x77]).toOption = some (.rorAbsX 0x9234, [0x77]) ∧
    (decode .extended [0x6A, 0x77]).toOption = some (.rorA, [0x77]) := by
  decide

theorem test_decode_branches :
    (decode .extended [0x10, 0x9C, 0x77]).toOption = some (.bpl 0x9C, [0x77]) ∧
    (decode .extended [0x30, 0x9C, 0x77]).toOption = some (.bmi 0x9C, [0x77]) ∧
    (decode .extended [0x50, 0x9C, 0x77]).toOption = some (.bvc 0x9C, [0x77]) ∧
    (decode .extended [0x70, 0x9C, 0x77]).toOption = some (.bvs 0x9C, [0x77]) ∧
    (decode .extended [0x90, 0x9C, 0x77]).toOption = some (.bcc 0x9C, [0x77]) ∧
    (decode .extended [0xB0, 0x9C, 0x77]).toOption = some (.bcs 0x9C, [0x77]) ∧
    (decode .extended [0xD0, 0x9C, 0x77]).toOption = some (.bne 0x9C, [0x77]) ∧
    (decode .extended [0xF0, 0x9C, 0x77]).toOption = some (.beq 0x9C, [0x77]) := by
  decide

theorem test_decode_jumps_and_brk :
    (decode .core [0x00, 0x77]).toOption = some (.brk, [0x77]) ∧
    (decode .extended [0x4C, 0x34, 0x92, 0x77]).toOption = some (.jmpAbs 0x9234, [0x77]) ∧
    (decode .extended [0x6C, 0x34, 0x92, 0x77]).toOption = some (.jmpInd 0x9234, [0x77]) ∧
    (decode .extended [0x20, 0x34, 0x92, 0x77]).toOption = some (.jsr 0x9234, [0x77]) ∧
    (decode .extended [0x60, 0x77]).toOption = some (.rts, [0x77]) := by
  decide

theorem test_decode_stack :
    (decode .extended [0x48, 0x77]).toOption = some (.pha, [0x77]) ∧
    (decode .extended [0x68, 0x77]).toOption = some (.pla, [0x77]) ∧
    (decode .extended [0x9A, 0x77]).toOption = some (.txs, [0x77]) ∧
    (decode .extended [0xBA, 0x77]).toOption = some (.tsx, [0x77]) := by
  decide

theorem test_decode_transfers :
    (decode .core [0xAA, 0x77]).toOption = some (.tax, [0x77]) ∧
    (decode .extended [0xA8, 0x77]).toOption = some (.tay, [0x77]) ∧
    (decode .extended [0x8A, 0x77]).toOption = some (.txa, [0x77]) ∧
    (decode .extended [0x98, 0x77]).toOption = some (.tya, [0x77]) := by
  decide

theorem test_decode_flags_and_nop :
    (decode .extended [0x18, 0x77]).toOption = some (.clc, [0x77]) ∧
    (decode .extended [0x38, 0x77]).toOption = some (.sec, [0x77]) ∧
    (decode .extended [0xB8, 0x77]).toOption = some (.clv, [0x77]) ∧
    (decode .extended [0xEA, 0x77]).toOption = some (.nop, [0x77]) := by
  decide

/-- The table numbers bits from the first byte's least significant bit; operand bytes follow. -/
theorem test_decodeTableWord :
    decodeTableWord 16 0x05A9 = some (.ldaImm 0x05) ∧ decodeTableWord 24 0x12349D = some (.staAbsX 0x1234) ∧
    decodeTableWord 8 0xAA = some .tax ∧ decodeTableWord 8 0x6C = some (.jmpInd 0x0000) ∧ decodeTableWord 8 0x02 = none := by
  decide

/-! ## One step: vectors of `95_test_vectors.md` -/

theorem test_L1 : (let s := running .core 0x8000 [0xA9, 0x00]
    after { s with a := 0x55, p := { s.p with n := true } } fun t =>
      [t.a.toNat, bit t.p.z, bit t.p.n, t.pc.toNat]) =
    some [0x00, 0x01, 0x00, 0x8002] := by
  decide

theorem test_L3 : (let s := running .core 0x8000 [0xA5, 0x10]
    after { s with mem := s.mem.write 0x0010 0x7F } fun t =>
      [t.a.toNat, t.pc.toNat]) =
    some [0x7F, 0x8002] := by
  decide

theorem test_L4 : (let s := running .core 0x8000 [0xB5, 0xF0]
    after { s with x := 0x20, mem := (s.mem.write 0x0010 0xAB).write 0x0110 0xEE } fun t =>
      [t.a.toNat, bit t.p.n, t.pc.toNat]) =
    some [0xAB, 0x01, 0x8002] := by
  decide

theorem test_L5 : (let s := running .core 0x8000 [0xAD, 0x34, 0x12]
    after { s with mem := s.mem.write 0x1234 0x01 } fun t =>
      [t.a.toNat, t.pc.toNat]) =
    some [0x01, 0x8003] := by
  decide

theorem test_L6 : (let s := running .core 0x8000 [0xBD, 0xFF, 0x12]
    after { s with x := 0x01, mem := s.mem.write 0x1300 0x99 } fun t =>
      [t.a.toNat, bit t.p.n, t.pc.toNat]) =
    some [0x99, 0x01, 0x8003] := by
  decide

theorem test_L7 : (let s := running .core 0x8000 [0xB9, 0xF0, 0xFF]
    after { s with y := 0x20, mem := s.mem.write 0x0010 0x42 } fun t =>
      [t.a.toNat, t.pc.toNat]) =
    some [0x42, 0x8003] := by
  decide

theorem test_L8 : (let s := running .core 0x8000 [0xA1, 0xFE]
    after { s with x := 0x01, mem := (((s.mem.write 0x00FF 0x34).write 0x0000 0x12).write 0x0100 0x99).write 0x1234 0x5A } fun t =>
      [t.a.toNat, t.pc.toNat]) =
    some [0x5A, 0x8002] := by
  decide

theorem test_L9 : (let s := running .core 0x8000 [0xB1, 0xFF]
    after { s with y := 0x20, mem := (((s.mem.write 0x00FF 0xF0).write 0x0000 0xFF).write 0x0100 0x11).write 0x0010 0x42 } fun t =>
      [t.a.toNat, t.pc.toNat]) =
    some [0x42, 0x8002] := by
  decide

theorem test_L10 : (let s := running .core 0x8000 [0xB6, 0x80]
    after { s with y := 0xFF, mem := s.mem.write 0x007F 0x80 } fun t =>
      [t.x.toNat, bit t.p.n, t.pc.toNat]) =
    some [0x80, 0x01, 0x8002] := by
  decide

theorem test_L11 : (let s := running .core 0x8000 [0xA2, 0xFF]
    after s fun t =>
      [t.x.toNat, bit t.p.n, t.pc.toNat]) =
    some [0xFF, 0x01, 0x8002] := by
  decide

theorem test_L12 : (let s := running .core 0x8000 [0xBC, 0x00, 0x20]
    after { s with x := 0x05, y := 0x77, p := { s.p with n := true } } fun t =>
      [t.y.toNat, bit t.p.z, bit t.p.n, t.pc.toNat]) =
    some [0x00, 0x01, 0x00, 0x8003] := by
  decide

theorem test_L15 : (let s := running .core 0x8000 [0xA4, 0x10]
    after { s with y := 0x09, mem := s.mem.write 0x0010 0x00 } fun t =>
      [t.y.toNat, bit t.p.z, t.pc.toNat]) =
    some [0x00, 0x01, 0x8002] := by
  decide

theorem test_L16 : (let s := running .core 0x8000 [0xA6, 0x10]
    after { s with mem := s.mem.write 0x0010 0x01 } fun t =>
      [t.x.toNat, t.pc.toNat]) =
    some [0x01, 0x8002] := by
  decide

theorem test_L17 : (let s := running .core 0x8000 [0xAE, 0x00, 0x03]
    after { s with mem := s.mem.write 0x0300 0xF0 } fun t =>
      [t.x.toNat, bit t.p.n, t.pc.toNat]) =
    some [0xF0, 0x01, 0x8003] := by
  decide

theorem test_L18 : (let s := running .core 0x8000 [0xBE, 0xFF, 0x02]
    after { s with y := 0x01, mem := s.mem.write 0x0300 0xF0 } fun t =>
      [t.x.toNat, bit t.p.n, t.pc.toNat]) =
    some [0xF0, 0x01, 0x8003] := by
  decide

theorem test_L19 : (let s := running .core 0x8000 [0xA0, 0x7F]
    after s fun t =>
      [t.y.toNat, t.pc.toNat]) =
    some [0x7F, 0x8002] := by
  decide

theorem test_L20 : (let s := running .core 0x8000 [0xB4, 0xFF]
    after { s with x := 0x01, mem := s.mem.write 0x0000 0x88 } fun t =>
      [t.y.toNat, bit t.p.n, t.pc.toNat]) =
    some [0x88, 0x01, 0x8002] := by
  decide

theorem test_L21 : (let s := running .core 0x8000 [0xAC, 0x00, 0x03]
    after { s with mem := s.mem.write 0x0300 0x01 } fun t =>
      [t.y.toNat, t.pc.toNat]) =
    some [0x01, 0x8003] := by
  decide

theorem test_ST1 : (let s := running .core 0x8000 [0x85, 0xFF]
    after { s with a := 0x01 } fun t =>
      [(t.read 0x00FF).toNat, t.pc.toNat]) =
    some [0x01, 0x8002] := by
  decide

theorem test_ST2 : (let s := running .core 0x8000 [0x95, 0xFF]
    after { s with a := 0xAB, x := 0x02 } fun t =>
      [(t.read 0x0001).toNat, t.pc.toNat]) =
    some [0xAB, 0x8002] := by
  decide

theorem test_ST3 : (let s := running .core 0x8000 [0x8D, 0x00, 0x02]
    after { s with a := 0x80 } fun t =>
      [(t.read 0x0200).toNat, t.pc.toNat]) =
    some [0x80, 0x8003] := by
  decide

theorem test_ST4 : (let s := running .core 0x8000 [0x9D, 0x00, 0xFF]
    after { s with a := 0x10, x := 0x10 } fun t =>
      [(t.read 0xFF10).toNat, t.pc.toNat]) =
    some [0x10, 0x8003] := by
  decide

theorem test_ST5 : (let s := running .core 0x8000 [0x99, 0xFF, 0xFF]
    after { s with a := 0x5A, y := 0x02 } fun t =>
      [(t.read 0x0001).toNat, t.pc.toNat]) =
    some [0x5A, 0x8003] := by
  decide

theorem test_ST6 : (let s := running .core 0x8000 [0x81, 0x10]
    after { s with a := 0x66, x := 0x04, mem := (s.mem.write 0x0014 0x00).write 0x0015 0x03 } fun t =>
      [(t.read 0x0300).toNat, t.pc.toNat]) =
    some [0x66, 0x8002] := by
  decide

theorem test_ST7 : (let s := running .core 0x8000 [0x91, 0x10]
    after { s with a := 0x77, y := 0x01, mem := (s.mem.write 0x0010 0xFF).write 0x0011 0x02 } fun t =>
      [(t.read 0x0300).toNat, t.pc.toNat]) =
    some [0x77, 0x8002] := by
  decide

theorem test_ST9 : (let s := running .extended 0x8000 [0x96, 0xF0]
    after { s with x := 0x7F, y := 0x20 } fun t =>
      [(t.read 0x0010).toNat, t.pc.toNat]) =
    some [0x7F, 0x8002] := by
  decide

theorem test_ST10 : (let s := running .extended 0x8000 [0x8C, 0x34, 0x12]
    after { s with y := 0x01 } fun t =>
      [(t.read 0x1234).toNat, t.pc.toNat]) =
    some [0x01, 0x8003] := by
  decide

theorem test_ST11 : (let s := running .extended 0x8000 [0x86, 0x20]
    after { s with x := 0x7F } fun t =>
      [(t.read 0x0020).toNat, t.pc.toNat]) =
    some [0x7F, 0x8002] := by
  decide

theorem test_ST12 : (let s := running .extended 0x8000 [0x8E, 0x00, 0x02]
    after { s with x := 0xFF } fun t =>
      [(t.read 0x0200).toNat, t.pc.toNat]) =
    some [0xFF, 0x8003] := by
  decide

theorem test_ST13 : (let s := running .extended 0x8000 [0x84, 0x20]
    after { s with y := 0x03 } fun t =>
      [(t.read 0x0020).toNat, t.pc.toNat]) =
    some [0x03, 0x8002] := by
  decide

theorem test_ST14 : (let s := running .extended 0x8000 [0x94, 0xFF]
    after { s with x := 0x01, y := 0x03 } fun t =>
      [(t.read 0x0000).toNat, t.pc.toNat]) =
    some [0x03, 0x8002] := by
  decide

theorem test_AD1 : (let s := running .core 0x8000 [0x69, 0x50]
    after { s with a := 0x50, p := { s.p with c := false } } fun t =>
      [t.a.toNat, bit t.p.c, bit t.p.z, bit t.p.v, bit t.p.n, t.pc.toNat]) =
    some [0xA0, 0x00, 0x00, 0x01, 0x01, 0x8002] := by
  decide

theorem test_AD2 : (let s := running .core 0x8000 [0x69, 0x01]
    after { s with a := 0xFF, p := { s.p with c := false } } fun t =>
      [t.a.toNat, bit t.p.c, bit t.p.z, bit t.p.v, bit t.p.n, t.pc.toNat]) =
    some [0x00, 0x01, 0x01, 0x00, 0x00, 0x8002] := by
  decide

theorem test_AD11 : (let s := running .core 0x8000 [0x65, 0x10]
    after { s with a := 0x01, p := { s.p with c := true }, mem := s.mem.write 0x0010 0x02 } fun t =>
      [t.a.toNat, bit t.p.c, bit t.p.z, bit t.p.v, bit t.p.n, t.pc.toNat]) =
    some [0x04, 0x00, 0x00, 0x00, 0x00, 0x8002] := by
  decide

theorem test_AD12 : (let s := running .core 0x8000 [0x71, 0x40]
    after { s with a := 0x10, y := 0x02, p := { s.p with c := false }, mem := ((s.mem.write 0x0040 0x00).write 0x0041 0x03).write 0x0302 0x22 } fun t =>
      [t.a.toNat, bit t.p.c, bit t.p.z, bit t.p.v, bit t.p.n, t.pc.toNat]) =
    some [0x32, 0x00, 0x00, 0x00, 0x00, 0x8002] := by
  decide

theorem test_SB1 : (let s := running .core 0x8000 [0xE9, 0xB0]
    after { s with a := 0x50, p := { s.p with c := true } } fun t =>
      [t.a.toNat, bit t.p.c, bit t.p.z, bit t.p.v, bit t.p.n, t.pc.toNat]) =
    some [0xA0, 0x00, 0x00, 0x01, 0x01, 0x8002] := by
  decide

theorem test_SB2 : (let s := running .core 0x8000 [0xE9, 0x01]
    after { s with a := 0x00, p := { s.p with c := true } } fun t =>
      [t.a.toNat, bit t.p.c, bit t.p.z, bit t.p.v, bit t.p.n, t.pc.toNat]) =
    some [0xFF, 0x00, 0x00, 0x00, 0x01, 0x8002] := by
  decide

theorem test_IN1 : (let s := running .core 0x8000 [0xE8]
    after { s with x := 0xFF, p := { s.p with c := true, v := true } } fun t =>
      [t.x.toNat, bit t.p.z, bit t.p.n, t.pc.toNat]) =
    some [0x00, 0x01, 0x00, 0x8001] := by
  decide

theorem test_IN4 : (let s := running .core 0x8000 [0xC8]
    after { s with y := 0x7F } fun t =>
      [t.y.toNat, bit t.p.n, t.pc.toNat]) =
    some [0x80, 0x01, 0x8001] := by
  decide

theorem test_IN6 : (let s := running .extended 0x8000 [0xCA]
    after { s with x := 0x00 } fun t =>
      [t.x.toNat, bit t.p.n, t.pc.toNat]) =
    some [0xFF, 0x01, 0x8001] := by
  decide

theorem test_IN8 : (let s := running .extended 0x8000 [0x88]
    after { s with y := 0x01 } fun t =>
      [t.y.toNat, bit t.p.z, t.pc.toNat]) =
    some [0x00, 0x01, 0x8001] := by
  decide

theorem test_IN10 : (let s := running .extended 0x8000 [0xE6, 0x10]
    after { s with mem := s.mem.write 0x0010 0xFF } fun t =>
      [(t.read 0x0010).toNat, bit t.p.z, t.pc.toNat]) =
    some [0x00, 0x01, 0x8002] := by
  decide

theorem test_IN11 : (let s := running .extended 0x8000 [0xFE, 0xFF, 0x02]
    after { s with x := 0x01, mem := s.mem.write 0x0300 0x7F } fun t =>
      [(t.read 0x0300).toNat, bit t.p.n, t.pc.toNat]) =
    some [0x80, 0x01, 0x8003] := by
  decide

theorem test_IN12 : (let s := running .extended 0x8000 [0xCE, 0x34, 0x12]
    after { s with mem := s.mem.write 0x1234 0x01 } fun t =>
      [(t.read 0x1234).toNat, bit t.p.z, t.pc.toNat]) =
    some [0x00, 0x01, 0x8003] := by
  decide

theorem test_IN13 : (let s := running .extended 0x8000 [0xD6, 0x10]
    after { s with x := 0xF0, mem := s.mem.write 0x0000 0x00 } fun t =>
      [(t.read 0x0000).toNat, bit t.p.n, t.pc.toNat]) =
    some [0xFF, 0x01, 0x8002] := by
  decide

theorem test_CM1 : (let s := running .extended 0x8000 [0xC9, 0x20]
    after { s with a := 0x10, p := { s.p with v := true } } fun t =>
      [bit t.p.c, bit t.p.z, bit t.p.n, t.a.toNat, t.pc.toNat]) =
    some [0x00, 0x00, 0x01, 0x10, 0x8002] := by
  decide

theorem test_CM2 : (let s := running .extended 0x8000 [0xC9, 0x20]
    after { s with a := 0x20, p := { s.p with v := true } } fun t =>
      [bit t.p.c, bit t.p.z, bit t.p.n, t.pc.toNat]) =
    some [0x01, 0x01, 0x00, 0x8002] := by
  decide

theorem test_CM6 : (let s := running .extended 0x8000 [0xE0, 0x05]
    after { s with x := 0x05 } fun t =>
      [bit t.p.c, bit t.p.z, bit t.p.n, t.pc.toNat]) =
    some [0x01, 0x01, 0x00, 0x8002] := by
  decide

theorem test_CM7 : (let s := running .extended 0x8000 [0xC0, 0x01]
    after { s with y := 0xFF } fun t =>
      [bit t.p.c, bit t.p.z, bit t.p.n, t.pc.toNat]) =
    some [0x01, 0x00, 0x01, 0x8002] := by
  decide

theorem test_CM8 : (let s := running .extended 0x8000 [0xE4, 0x10]
    after { s with x := 0x00, mem := s.mem.write 0x0010 0x01 } fun t =>
      [bit t.p.c, bit t.p.z, bit t.p.n, t.pc.toNat]) =
    some [0x00, 0x00, 0x01, 0x8002] := by
  decide

theorem test_CM9 : (let s := running .extended 0x8000 [0xCC, 0x00, 0x03]
    after { s with y := 0x40, mem := s.mem.write 0x0300 0x40 } fun t =>
      [bit t.p.c, bit t.p.z, bit t.p.n, t.pc.toNat]) =
    some [0x01, 0x01, 0x00, 0x8003] := by
  decide

theorem test_LG1X : (let s := running .core 0x8000 [0x29, 0x3C]
    after { s with a := 0xF0, x := 0x11 } fun t =>
      [t.x.toNat, t.a.toNat, bit t.p.z, bit t.p.n, t.pc.toNat]) =
    some [0x30, 0xF0, 0x00, 0x00, 0x8002] := by
  decide

theorem test_LG1A : (let s := running .core 0x8000 [0x29, 0x3C]
    after { s with a := 0xF0, x := 0x11, cfg := { s.cfg with logicDest := .a } } fun t =>
      [t.a.toNat, t.x.toNat, bit t.p.z, bit t.p.n, t.pc.toNat]) =
    some [0x30, 0x11, 0x00, 0x00, 0x8002] := by
  decide

theorem test_LG3X : (let s := running .core 0x8000 [0x35, 0x10]
    after { s with a := 0xFF, x := 0x05, mem := (s.mem.write 0x0015 0x0F).write 0x001F 0xF0 } fun t =>
      [t.x.toNat, t.a.toNat, bit t.p.z, bit t.p.n, t.pc.toNat]) =
    some [0x0F, 0xFF, 0x00, 0x00, 0x8002] := by
  decide

theorem test_LG4X : (let s := running .core 0x8000 [0x09, 0x80]
    after { s with a := 0x0F, x := 0x00 } fun t =>
      [t.x.toNat, t.a.toNat, bit t.p.z, bit t.p.n, t.pc.toNat]) =
    some [0x8F, 0x0F, 0x00, 0x01, 0x8002] := by
  decide

theorem test_LG5X : (let s := running .core 0x8000 [0x0D, 0x00, 0x03]
    after { s with a := 0x00, x := 0x55, mem := s.mem.write 0x0300 0x00 } fun t =>
      [t.x.toNat, t.a.toNat, bit t.p.z, bit t.p.n, t.pc.toNat]) =
    some [0x00, 0x00, 0x01, 0x00, 0x8003] := by
  decide

theorem test_LG6X : (let s := running .core 0x8000 [0x49, 0xAA]
    after { s with a := 0xAA, x := 0x77 } fun t =>
      [t.x.toNat, t.a.toNat, bit t.p.z, bit t.p.n, t.pc.toNat]) =
    some [0x00, 0xAA, 0x01, 0x00, 0x8002] := by
  decide

theorem test_LG8X : (let s := running .core 0x8000 [0x41, 0x20]
    after { s with a := 0x01, x := 0x04, mem := ((s.mem.write 0x0024 0x00).write 0x0025 0x03).write 0x0300 0x80 } fun t =>
      [t.x.toNat, t.a.toNat, bit t.p.z, bit t.p.n, t.pc.toNat]) =
    some [0x81, 0x01, 0x00, 0x01, 0x8002] := by
  decide

theorem test_LG9X : (let s := running .extended 0x8000 [0x24, 0x20]
    after { s with a := 0x01, x := 0x33, mem := s.mem.write 0x0020 0xC0 } fun t =>
      [t.a.toNat, t.x.toNat, bit t.p.z, bit t.p.n, bit t.p.v, t.pc.toNat]) =
    some [0x01, 0x33, 0x01, 0x01, 0x01, 0x8002] := by
  decide

theorem test_LG9A : (let s := running .extended 0x8000 [0x24, 0x20]
    after { s with a := 0x01, x := 0x33, mem := s.mem.write 0x0020 0xC0, cfg := { s.cfg with logicDest := .a } } fun t =>
      [t.a.toNat, t.x.toNat, bit t.p.z, bit t.p.n, bit t.p.v, t.pc.toNat]) =
    some [0x01, 0x33, 0x01, 0x01, 0x01, 0x8002] := by
  decide

theorem test_LG10X : (let s := running .extended 0x8000 [0x2C, 0x00, 0x03]
    after { s with a := 0xFF, p := { s.p with v := true, n := true }, mem := s.mem.write 0x0300 0x3F } fun t =>
      [t.a.toNat, bit t.p.z, bit t.p.n, bit t.p.v, t.pc.toNat]) =
    some [0xFF, 0x00, 0x00, 0x00, 0x8003] := by
  decide

theorem test_SH1 : (let s := running .core 0x8000 [0x06, 0x10]
    after { s with mem := s.mem.write 0x0010 0x81 } fun t =>
      [(t.read 0x0010).toNat, bit t.p.c, bit t.p.z, bit t.p.n, t.pc.toNat]) =
    some [0x02, 0x01, 0x00, 0x00, 0x8002] := by
  decide

theorem test_SH2 : (let s := running .core 0x8000 [0x06, 0x10]
    after { s with mem := s.mem.write 0x0010 0x80 } fun t =>
      [(t.read 0x0010).toNat, bit t.p.c, bit t.p.z, bit t.p.n, t.pc.toNat]) =
    some [0x00, 0x01, 0x01, 0x00, 0x8002] := by
  decide

theorem test_SH6 : (let s := running .core 0x8000 [0x16, 0xF0]
    after { s with x := 0x20, mem := s.mem.write 0x0010 0x01 } fun t =>
      [(t.read 0x0010).toNat, t.pc.toNat]) =
    some [0x02, 0x8002] := by
  decide

theorem test_SH7 : (let s := running .core 0x8000 [0x0E, 0x00, 0x03]
    after { s with mem := s.mem.write 0x0300 0x55 } fun t =>
      [(t.read 0x0300).toNat, bit t.p.c, bit t.p.n, t.pc.toNat]) =
    some [0xAA, 0x00, 0x01, 0x8003] := by
  decide

theorem test_SH8 : (let s := running .core 0x8000 [0x1E, 0xFF, 0x02]
    after { s with x := 0x01, p := { s.p with v := true }, mem := s.mem.write 0x0300 0xAA } fun t =>
      [(t.read 0x0300).toNat, bit t.p.c, bit t.p.n, t.pc.toNat]) =
    some [0x54, 0x01, 0x00, 0x8003] := by
  decide

theorem test_SH10 : (let s := running .extended 0x8000 [0x0A]
    after { s with a := 0xC1 } fun t =>
      [t.a.toNat, bit t.p.c, bit t.p.n, t.pc.toNat]) =
    some [0x82, 0x01, 0x01, 0x8001] := by
  decide

theorem test_SH11 : (let s := running .extended 0x8000 [0x46, 0x10]
    after { s with p := { s.p with n := true }, mem := s.mem.write 0x0010 0x03 } fun t =>
      [(t.read 0x0010).toNat, bit t.p.c, bit t.p.z, bit t.p.n, t.pc.toNat]) =
    some [0x01, 0x01, 0x00, 0x00, 0x8002] := by
  decide

theorem test_SH13 : (let s := running .extended 0x8000 [0x4A]
    after { s with a := 0x80, p := { s.p with c := true } } fun t =>
      [t.a.toNat, bit t.p.c, bit t.p.n, t.pc.toNat]) =
    some [0x40, 0x00, 0x00, 0x8001] := by
  decide

theorem test_SH14 : (let s := running .extended 0x8000 [0x26, 0x10]
    after { s with p := { s.p with c := true }, mem := s.mem.write 0x0010 0x80 } fun t =>
      [(t.read 0x0010).toNat, bit t.p.c, bit t.p.z, t.pc.toNat]) =
    some [0x01, 0x01, 0x00, 0x8002] := by
  decide

theorem test_SH15 : (let s := running .extended 0x8000 [0x2A]
    after { s with a := 0x40, p := { s.p with c := false } } fun t =>
      [t.a.toNat, bit t.p.c, bit t.p.n, t.pc.toNat]) =
    some [0x80, 0x00, 0x01, 0x8001] := by
  decide

theorem test_SH17 : (let s := running .extended 0x8000 [0x66, 0x10]
    after { s with p := { s.p with c := false }, mem := s.mem.write 0x0010 0x01 } fun t =>
      [(t.read 0x0010).toNat, bit t.p.c, bit t.p.z, t.pc.toNat]) =
    some [0x00, 0x01, 0x01, 0x8002] := by
  decide

theorem test_SH18 : (let s := running .extended 0x8000 [0x6A]
    after { s with a := 0x02, p := { s.p with c := true } } fun t =>
      [t.a.toNat, bit t.p.c, bit t.p.n, t.pc.toNat]) =
    some [0x81, 0x00, 0x01, 0x8001] := by
  decide

theorem test_SH19 : (let s := running .extended 0x8000 [0x7E, 0x00, 0x03]
    after { s with x := 0x02, p := { s.p with c := true }, mem := s.mem.write 0x0302 0x01 } fun t =>
      [(t.read 0x0302).toNat, bit t.p.c, bit t.p.n, t.pc.toNat]) =
    some [0x80, 0x01, 0x01, 0x8003] := by
  decide

theorem test_CT1 : (let s := running .core 0x8000 [0x00]
    after { s with a := 0x12, p := { s.p with c := true } } fun t =>
      [(if t.run = .halted then 1 else 0), t.pc.toNat]) =
    some [1, 0x8001] := by
  decide

theorem test_CT2 : (let s := running .core 0x8000 [0x02]
    after { s with a := 0x12 } fun t =>
      [(if t.run = .faulted (.unrecognizedOpcode 0x02) then 1 else 0), t.pc.toNat]) =
    some [1, 0x8001] := by
  decide

theorem test_CT3 : (let s := running .core 0x8000 [0xEA]
    after s fun t =>
      [(if t.run = .faulted (.unrecognizedOpcode 0xEA) then 1 else 0), t.pc.toNat]) =
    some [1, 0x8001] := by
  decide

theorem test_CT5 : (let s := running .extended 0x8000 [0x78]
    after s fun t =>
      [(if t.run = .faulted (.unrecognizedOpcode 0x78) then 1 else 0), t.pc.toNat]) =
    some [1, 0x8001] := by
  decide

theorem test_CT6 : (let s := running .extended 0x8000 [0x40]
    after s fun t =>
      [(if t.run = .faulted (.unrecognizedOpcode 0x40) then 1 else 0), t.pc.toNat]) =
    some [1, 0x8001] := by
  decide

theorem test_CT7 : (let s := running .extended 0x0000 [0xFF]
    after s fun t =>
      [(if t.run = .faulted (.unrecognizedOpcode 0xFF) then 1 else 0), t.pc.toNat]) =
    some [1, 0x0001] := by
  decide

theorem test_CT8 : (let s := running .extended 0x8000 [0x10, 0x05]
    after { s with p := { s.p with n := false } } fun t =>
      [t.pc.toNat]) =
    some [0x8007] := by
  decide

theorem test_CT9 : (let s := running .extended 0x8000 [0x10, 0x05]
    after { s with p := { s.p with n := true } } fun t =>
      [t.pc.toNat]) =
    some [0x8002] := by
  decide

theorem test_CT10 : (let s := running .extended 0x8000 [0x30, 0xFE]
    after { s with p := { s.p with n := true } } fun t =>
      [t.pc.toNat]) =
    some [0x8000] := by
  decide

theorem test_CT11 : (let s := running .extended 0x8000 [0x50, 0x10]
    after { s with p := { s.p with v := false } } fun t =>
      [t.pc.toNat]) =
    some [0x8012] := by
  decide

theorem test_CT12 : (let s := running .extended 0x8000 [0x70, 0x10]
    after { s with p := { s.p with v := false } } fun t =>
      [t.pc.toNat]) =
    some [0x8002] := by
  decide

theorem test_CT13 : (let s := running .extended 0x80FE [0x90, 0x7F]
    after { s with p := { s.p with c := false } } fun t =>
      [t.pc.toNat]) =
    some [0x817F] := by
  decide

theorem test_CT14 : (let s := running .extended 0x8000 [0xB0, 0x80]
    after { s with p := { s.p with c := true } } fun t =>
      [t.pc.toNat]) =
    some [0x7F82] := by
  decide

theorem test_CT15 : (let s := running .extended 0x8003 [0xD0, 0xFD]
    after { s with p := { s.p with z := false } } fun t =>
      [t.pc.toNat]) =
    some [0x8002] := by
  decide

theorem test_CT16 : (let s := running .extended 0xFFFE [0xF0, 0x04]
    after { s with p := { s.p with z := true } } fun t =>
      [t.pc.toNat]) =
    some [0x04] := by
  decide

theorem test_CT17 : (let s := running .extended 0x8000 [0xF0, 0x00]
    after { s with p := { s.p with z := true } } fun t =>
      [t.pc.toNat]) =
    some [0x8002] := by
  decide

theorem test_CT18 : (let s := running .extended 0x8000 [0xD0, 0xFF]
    after { s with p := { s.p with z := false } } fun t =>
      [t.pc.toNat]) =
    some [0x8001] := by
  decide

theorem test_CT19 : (let s := running .extended 0x8000 [0x4C, 0x00, 0x06]
    after s fun t =>
      [t.pc.toNat]) =
    some [0x600] := by
  decide

theorem test_CT21 : (let s := running .extended 0x8000 [0x6C, 0xFF, 0x02]
    after { s with mem := ((s.mem.write 0x02FF 0x34).write 0x0200 0x12).write 0x0300 0x56 } fun t =>
      [t.pc.toNat]) =
    some [0x1234] := by
  decide

theorem test_CT22 : (let s := running .extended 0x8000 [0x6C, 0x10, 0x02]
    after { s with mem := (s.mem.write 0x0210 0x78).write 0x0211 0x56 } fun t =>
      [t.pc.toNat]) =
    some [0x5678] := by
  decide

theorem test_CT23 : (let s := running .extended 0x8000 [0x20, 0x10, 0x80]
    after s fun t =>
      [(t.read 0x01FD).toNat, (t.read 0x01FC).toNat, t.sp.toNat, t.pc.toNat]) =
    some [0x80, 0x02, 0xFB, 0x8010] := by
  decide

theorem test_CT25 : (let s := running .extended 0x8000 [0x60]
    after { s with sp := 0xFB, mem := (s.mem.write 0x01FC 0x02).write 0x01FD 0x80 } fun t =>
      [t.pc.toNat, t.sp.toNat]) =
    some [0x8003, 0xFD] := by
  decide

theorem test_CT26 : (let s := running .extended 0x8000 [0x60]
    after { s with sp := 0xFF, mem := (s.mem.write 0x0100 0xFF).write 0x0101 0xFF } fun t =>
      [t.pc.toNat, t.sp.toNat]) =
    some [0x00, 0x01] := by
  decide

theorem test_SK9 : (let s := running .extended 0x8000 [0x48]
    after { s with a := 0x42 } fun t =>
      [(t.read 0x01FD).toNat, t.sp.toNat, t.pc.toNat]) =
    some [0x42, 0xFC, 0x8001] := by
  decide

theorem test_SK10 : (let s := running .extended 0x8000 [0x48]
    after { s with a := 0x42, sp := 0x00 } fun t =>
      [(t.read 0x0100).toNat, t.sp.toNat, t.pc.toNat]) =
    some [0x42, 0xFF, 0x8001] := by
  decide

theorem test_SK11 : (let s := running .extended 0x8000 [0x68]
    after { s with sp := 0xFC, mem := s.mem.write 0x01FD 0x42 } fun t =>
      [t.a.toNat, t.sp.toNat, bit t.p.z, bit t.p.n, t.pc.toNat]) =
    some [0x42, 0xFD, 0x00, 0x00, 0x8001] := by
  decide

theorem test_SK12 : (let s := running .extended 0x8000 [0x68]
    after { s with sp := 0xFF, a := 0x01, mem := s.mem.write 0x0100 0x80 } fun t =>
      [t.a.toNat, t.sp.toNat, bit t.p.n, t.pc.toNat]) =
    some [0x80, 0x00, 0x01, 0x8001] := by
  decide

theorem test_SK14 : (let s := running .extended 0x8000 [0x9A]
    after { s with x := 0xFF, p := { s.p with z := true } } fun t =>
      [t.sp.toNat, t.pc.toNat]) =
    some [0xFF, 0x8001] := by
  decide

theorem test_SK15 : (let s := running .extended 0x8000 [0xBA]
    after s fun t =>
      [t.x.toNat, bit t.p.n, t.pc.toNat]) =
    some [0xFD, 0x01, 0x8001] := by
  decide

theorem test_TR1 : (let s := running .core 0x8000 [0xAA]
    after { s with a := 0x10, x := 0xFF, p := { s.p with n := true } } fun t =>
      [t.x.toNat, bit t.p.z, bit t.p.n, t.pc.toNat]) =
    some [0x10, 0x00, 0x00, 0x8001] := by
  decide

theorem test_TR4 : (let s := running .extended 0x8000 [0xA8]
    after { s with a := 0x00, y := 0x05 } fun t =>
      [t.y.toNat, bit t.p.z, t.pc.toNat]) =
    some [0x00, 0x01, 0x8001] := by
  decide

theorem test_TR5 : (let s := running .extended 0x8000 [0x8A]
    after { s with x := 0x8F } fun t =>
      [t.a.toNat, bit t.p.n, t.pc.toNat]) =
    some [0x8F, 0x01, 0x8001] := by
  decide

theorem test_TR6 : (let s := running .extended 0x8000 [0x98]
    after { s with y := 0x7F, a := 0x80, p := { s.p with n := true } } fun t =>
      [t.a.toNat, bit t.p.n, t.pc.toNat]) =
    some [0x7F, 0x00, 0x8001] := by
  decide

theorem test_FL1 : (let s := running .extended 0x8000 [0x18]
    after { s with p := { s.p with c := true, z := true } } fun t =>
      [bit t.p.c, t.pc.toNat]) =
    some [0x00, 0x8001] := by
  decide

theorem test_FL2 : (let s := running .extended 0x8000 [0x38]
    after s fun t =>
      [bit t.p.c, t.pc.toNat]) =
    some [0x01, 0x8001] := by
  decide

theorem test_FL3 : (let s := running .extended 0x8000 [0xB8]
    after { s with p := { s.p with v := true, c := true } } fun t =>
      [bit t.p.v, t.pc.toNat]) =
    some [0x00, 0x8001] := by
  decide

/-- After reset the word placed is the next to run (Log 5): `LDA #$05` (the table's word 0x05A9), then `BRK` from reset memory. -/
theorem test_withFetchWord_runs_first :
    after (State.reset.withFetchWord 16 0x05A9) (fun t => [t.a.toNat, t.pc.toNat]) = some [0x05, 0x0002] := by decide

/-- The end of scenario S1: with nothing placed, the first step from reset fetches a zero byte, which is BRK, and halts. -/
theorem test_reset_memory_is_brk :
    after State.reset (fun t => [(if t.run = .halted then 1 else 0), t.pc.toNat]) = some [1, 0x0001] := by decide

/-! ## Witnesses: a concrete instance of the hypotheses of each statement, at the boundaries of their ranges -/

/-- LookupFindsExactlyTheRowOfTheByte, IllegalBytesAreCounted: a byte each profile has and a byte each lacks. -/
theorem test_witness_lookup :
    (lookup .core 0xA9).isSome = true ∧ (lookup .extended 0x4C).isSome = true ∧ (lookup .core 0x4C).isNone = true ∧
      (lookup .extended 0xFF).isNone = true := by decide

/-- DecodeOfEncodeIsTheInstruction: well-formed instructions of each profile, at the last operand word. -/
theorem test_witness_wellFormed :
    WellFormed .core (.staAbsX 0xFFFF) = true ∧ WellFormed .extended (.jmpInd 0xFFFF) = true ∧
      WellFormed .extended .tax = true := by decide

/-- EncodeOfDecodeIsTheBytes: bytes that decode, with and without bytes left over. -/
theorem test_witness_decode :
    decode .core [0x9D, 0xFF, 0xFF] = .ok (.staAbsX 0xFFFF, []) ∧ decode .extended [0x60, 0x00] = .ok (.rts, [0x00]) :=
  ⟨rfl, rfl⟩

/-- WordRoundTripAtEveryAddress: at 0xFFFF the high byte lies at 0x0000, and 0x0001 is another cell. -/
theorem test_witness_word : ((0xFFFF : Addr) + 1 = 0x0000) ∧ (0x0001 : Addr) ≠ 0xFFFF ∧ (0x0001 : Addr) ≠ 0xFFFF + 1 := by
  decide

/-- LoadProgramCopiesOrRefuses, LoadAndRunBeginsAtTheBase: the smallest image that does not fit at 0xFFFF, the largest that
does, a byte of it, and addresses below and above an image. -/
theorem test_witness_load :
    ((0xFFFF : Addr).toNat + [(0x01 : Byte), 0x02].length > 65536) ∧
    ((0xFFFF : Addr).toNat + [(0x01 : Byte)].length ≤ 65536) ∧ [(0x01 : Byte)][0]? = some 0x01 ∧
    (0xFFFF : Addr) + BitVec.ofNat 16 0 ≠ 0xFFFC ∧ (0xFFFF : Addr) + BitVec.ofNat 16 0 ≠ 0xFFFD ∧
    (0xFFFE : Addr).toNat < (0xFFFF : Addr).toNat ∧
    ((0x8000 : Addr).toNat + [(0x01 : Byte)].length ≤ 65536) ∧
    (0x8000 : Addr).toNat + [(0x01 : Byte)].length ≤ (0x8001 : Addr).toNat := by decide

/-- EffectiveAddressOfEachMode: an operand that is not immediate. -/
theorem test_witness_operand :
    Operand.zeroPage 0x10 ≠ .immediate 0x10 ∧ (Operand.zeroPage 0x10).mode ≠ .immediate := by decide

/-- ResolverAgreesWithTheDecodedOperand: operand bytes at the operand pointer, a word across the top of memory, and one byte. -/
theorem test_witness_resolver :
    (∀ i v, (Operand.absolute 0x1234).bytes[i]? = some v →
      (running .core 0xFFFF [0x34, 0x12]).read (0xFFFF + BitVec.ofNat 16 i) = v) ∧
    (∀ i v, (Operand.immediate 0x7F).bytes[i]? = some v →
      (running .core 0x8000 [0x7F]).read (0x8000 + BitVec.ofNat 16 i) = v) := by
  constructor
  · intro i v h
    match i, h with
    | 0, h => cases h; decide
    | 1, h => cases h; decide
    | _ + 2, h => cases h
  · intro i v h
    match i, h with
    | 0, h => cases h; decide
    | _ + 1, h => cases h

/-- ResolverRejectsNoneAddressing: a mode that is not NoneAddressing. -/
theorem test_witness_mode : AddressingMode.indirectY ≠ .noneAddressing := by decide

/-- LdaLoadsA to RotatesThroughCarry: the row lists are not empty; with the rows that have statements of their own they are the
whole table. -/
theorem test_witness_rows :
    ([ldaRows, ldxRows, ldyRows, staRows, stxRows, styRows, adcRows, sbcRows, incRows, decRows, cmpRows, cpxRows, cpyRows,
      andRows, oraRows, eorRows, bitRows, aslRows, lsrRows, rolRows, rorRows].map fun rows => (rows 0x10 0x1234).length) =
    [8, 5, 5, 7, 3, 3, 8, 8, 4, 4, 8, 3, 3, 8, 8, 8, 2, 4, 4, 4, 4] ∧
    (144 : Nat) = (8 + 5 + 5 + 7 + 3 + 3 + 8 + 8 + 4 + 4 + 8 + 3 + 3 + 8 + 8 + 8 + 2 + 4 + 4 + 4 + 4) + 33 := by decide

/-- AdcAndSbcObeyTheIntegerLaws, ArithmeticIgnoresDecimalMode: rows of each list whose operands are complements. -/
theorem test_witness_complement :
    ((0x69, .adcImm 0x50, .immediate 0x50) : Byte × Instr × Operand) ∈ adcRows 0x50 0x1234 ∧
    ((0xE9, .sbcImm 0xAF, .immediate 0xAF) : Byte × Instr × Operand) ∈ sbcRows 0xAF 0x1234 ∧
    (Operand.immediate 0x50).value State.reset = ~~~((Operand.immediate 0xAF).value State.reset) := by decide

/-- NineRotatesRestore: an instruction and a row it speaks of. -/
theorem test_witness_rotate :
    Instr.rorA ∈ [Instr.rolA, .rorA] ∧
    ((0x7E, .rorAbsX 0x1234, .absoluteX 0x1234) : Byte × Instr × Operand) ∈ rolRows 0x10 0x1234 ++ rorRows 0x10 0x1234 := by
  decide

/-- A running machine at an INX, under `CORE`, whose host makes one move: it writes `w` at 0x00FF and asks for a halt or
not. -/
def hosted (w : Byte) (halt : Bool) : State :=
  let s := running .core 0x8000 [0xE8]
  { s with
    cfg := { s.cfg with host := .hook }
    hostMoves := [⟨[(0x00FF, w)], halt⟩] }

/-- Program P11 of `95_test_vectors.md`, its first step: the host writes 0x77 at 0x00FF before `LDA $FF` reads it. -/
theorem test_P11_first_step :
    after { hosted 0x77 false with mem := Memory.writeBytes [] 0x8000 [0xA5, 0xFF] } (fun t =>
      [t.a.toNat, (t.read 0x00FF).toNat, t.pc.toNat]) = some [0x77, 0x77, 0x8002] := by decide

/-- R258 (b): a halt request ends the run with `pc` unchanged and no instruction executed. -/
theorem test_host_halt :
    after (hosted 0x77 true) (fun t => [(if t.run = .halted then 1 else 0), t.pc.toNat, t.x.toNat]) =
      some [1, 0x8000, 0x00] := by decide

/-- A placed word is the next to run under a host too (Log 5): `LDA #$05`. -/
theorem test_withFetchWord_under_a_host :
    after ((hosted 0x77 true).withFetchWord 16 0x05A9) (fun t => [t.a.toNat, t.pc.toNat]) = some [0x05, 0x8002] := by
  decide

/-- BrkEndsTheRun: a running machine, without a host, with a zero byte at the last address; and one whose host writes the
zero byte that the step then fetches. -/
theorem test_witness_brk :
    (let s := running .core 0xFFFF []
     s.run = .running ∧ (hostTurn s).run = .running ∧ (hostTurn s).read (hostTurn s).pc = 0x00) ∧
    (let s := { hosted 0x00 false with pc := 0x00FF }
     s.run = .running ∧ (hostTurn s).run = .running ∧ (hostTurn s).read (hostTurn s).pc = 0x00) := by decide

/-- PopsReturnPushesInReverse: no byte, and the whole page. -/
theorem test_witness_pops : ([] : List Byte).length ≤ 256 ∧ (List.replicate 256 (0x5A : Byte)).length ≤ 256 := by
  rw [List.length_replicate]; decide

/-- MemoryChangesOnlyWhereAnInstructionStores: a store at the top of memory, a byte stored, and an address not stored to. -/
theorem test_witness_memory_frame :
    let s := { State.reset with a := 0x42 }
    (∃ t, exec (.staAbs 0xFFFF) s = .next t) ∧ ((0xFFFF, 0x42) : Addr × Byte) ∈ stores (.staAbs 0xFFFF) s ∧
      ∀ c ∈ stores (.staAbs 0xFFFF) s, (0x0000 : Addr) ≠ c.1 := by
  exact ⟨⟨_, rfl⟩, List.mem_singleton.mpr rfl, fun c hc => by cases List.mem_singleton.mp hc; decide⟩

/-- RegistersAreWrittenAndReadAsTabulated: an instruction that runs, with a register it does not write and one it does not
read, under each destination of the logical instructions. -/
theorem test_witness_register_frame :
    (∃ t, exec .tax State.reset = .next t) ∧ writes .y .x .tax = false ∧ reads .x .tax = false ∧ writes .x .x .tax = true ∧
      (∃ t, exec (.andImm 0x0F) State.reset = .next t) ∧ writes .a .x (.andImm 0x0F) = false ∧
      writes .a .a (.andImm 0x0F) = true ∧ reads .y (.andImm 0x0F) = false := by
  refine ⟨⟨_, rfl⟩, by decide, by decide, by decide, ⟨_, rfl⟩, by decide, by decide, by decide⟩

/-- FlagsAreWrittenAsTabulated: an instruction for each clause. -/
theorem test_witness_flag_frame :
    (∃ t, exec (.staZp 0x10) State.reset = .next t) ∧
    (Instr.staZp 0x10).mnemonic ∉ ["ADC", "SBC", "ASL", "ASL_A", "LSR", "LSR_A", "ROL", "ROL_A", "ROR", "ROR_A", "CMP",
      "CPX", "CPY", "CLC", "SEC"] ∧
    (Instr.staZp 0x10).mnemonic ∉ ["ADC", "SBC", "BIT", "CLV"] ∧
    (Instr.staZp 0x10).mnemonic ∈ ["STA", "STX", "STY", "PHA", "TXS", "NOP", "JMP", "JSR", "RTS", "BPL", "BMI", "BVC",
      "BVS", "BCC", "BCS", "BNE", "BEQ", "BRK", "CLC", "SEC", "CLV"] ∧
    (Instr.staZp 0x10).mnemonic ∉ ["PHA", "PLA", "TXS", "JSR", "RTS"] := by
  exact ⟨⟨_, rfl⟩, by decide, by decide, by decide, by decide⟩

/-- StepRunsTheDecodedInstruction: an instruction across the top of memory, the idle machine after reset, a machine whose
host has moved, and one whose host asks for a halt. -/
theorem test_witness_step :
    (let s := running .core 0xFFFE [0xAD, 0x34, 0x12]
     let u := hostTurn { s with run := .running }
     s.cfg.host = .none ∧ s.run = .running ∧ u.run = .running ∧
      decode u.cfg.profile [u.read u.pc, u.read (u.pc + 1), u.read (u.pc + 2)] = .ok (.ldaAbs 0x1234, [])) ∧
    (let u := hostTurn { State.reset with run := .running }
     State.reset.cfg.host = .none ∧ State.reset.run = .idle ∧ u.run = .running ∧
      decode u.cfg.profile [u.read u.pc, u.read (u.pc + 1), u.read (u.pc + 2)] = .ok (.brk, [0x00, 0x00])) ∧
    (let u := hostTurn { hosted 0x77 false with run := .running }
     (hosted 0x77 false).run = .running ∧ u.run = .running ∧
      decode u.cfg.profile [u.read u.pc, u.read (u.pc + 1), u.read (u.pc + 2)] = .ok (.inx, [0x00, 0x00])) ∧
    (hosted 0x77 true).run = .running ∧ (hostTurn { hosted 0x77 true with run := .running }).run ≠ .running :=
  ⟨⟨rfl, rfl, rfl, rfl⟩, ⟨rfl, rfl, rfl, rfl⟩, ⟨rfl, rfl, rfl⟩, rfl, by decide⟩

/-- UnrecognizedOpcodeFaultsAfterTheAdvance: a byte absent under CORE only, one absent under both, and one that the host
writes before the fetch. -/
theorem test_witness_unrecognized :
    (let u := hostTurn (running .core 0x8000 [0x4C])
     (running .core 0x8000 [0x4C]).run = .running ∧ u.run = .running ∧
      lookup u.cfg.profile (u.read u.pc) = none) ∧
    (let u := hostTurn (running .extended 0xFFFF [0x02])
     (running .extended 0xFFFF [0x02]).run = .running ∧ u.run = .running ∧
      lookup u.cfg.profile (u.read u.pc) = none) ∧
    (let s := { hosted 0x77 false with pc := 0x00FF }
     s.run = .running ∧ (hostTurn s).run = .running ∧
      lookup (hostTurn s).cfg.profile ((hostTurn s).read (hostTurn s).pc) = none) := by decide

/-- RunStateAfterAStep: running machines without a host, with a host that goes on and with one that asks for a halt. -/
theorem test_witness_run_state :
    (running .core 0x8000 [0xE8]).run = .running ∧ (hosted 0x77 false).run = .running ∧
      (hostTurn (hosted 0x77 false)).run = .running ∧ (hosted 0x77 true).run = .running ∧
      (hostTurn (hosted 0x77 true)).run = .halted := by decide

/-- EndedRunsStepOnlyByTheHost: a halted, a faulted and an idle machine, and a running one that steps. -/
theorem test_witness_ended :
    ({ State.reset with run := .halted } : State).run = .halted ∧
    ({ State.reset with run := .faulted (.unrecognizedOpcode 0x02) } : State).run = .faulted (.unrecognizedOpcode 0x02) ∧
    State.reset.run = .idle ∧ State.reset.run ≠ .running ∧
    ∃ t, (running .core 0x8000 [0xE8]).run = .running ∧ step (running .core 0x8000 [0xE8]) = .next t := by
  exact ⟨rfl, rfl, rfl, by decide, _, rfl, rfl⟩

/-- HostMovesOnlyWhereAllowed: machines with each `HOST`, an address the host may write and one it may not, a halting move,
and a host whose given moves are used up. -/
theorem test_witness_host :
    State.reset.cfg.host = .none ∧ (hosted 0x77 true).cfg.host = .hook ∧ (0x00FF : Addr) ∈ (hosted 0x77 true).cfg.hostWrites ∧
      (0x00FE : Addr) ∉ (hosted 0x77 true).cfg.hostWrites ∧ (HostMove.mk [(0x00FF, 0x77)] true).halt = true ∧
      (hostTurn (hosted 0x77 true)).cfg.host = .hook ∧ (hostTurn (hosted 0x77 true)).hostMoves = [] := by decide

/-- FetchSeesTheStore: a STA of a byte the profile has into the next instruction, of one it has not, a PHA at the top of the
stack page into the instruction that follows it, and a STA with a host that may not write there. -/
theorem test_witness_store_then_fetch :
    (let s := { running .core 0x8000 [] with a := 0xE8 }
     ∃ t, exec (.staAbs 0x8002) s = .next t ∧ t.run = .running ∧ (hostTurn t).run = .running ∧ t.cfg.host = .none ∧
      (t.pc, 0xE8) ∈ stores (.staAbs 0x8002) s ∧ (lookup t.cfg.profile 0xE8).isSome = true) ∧
    (let s := { running .core 0x8000 [] with a := 0x02 }
     ∃ t, exec (.staAbs 0x8002) s = .next t ∧ t.run = .running ∧ (hostTurn t).run = .running ∧ t.cfg.host = .none ∧
      (t.pc, 0x02) ∈ stores (.staAbs 0x8002) s ∧ lookup t.cfg.profile 0x02 = none) ∧
    (let s := { running .extended 0x01FF [] with a := 0xEA, sp := 0xFF }
     ∃ t, exec .pha s = .next t ∧ t.run = .running ∧ (hostTurn t).run = .running ∧ t.cfg.host = .none ∧
      (t.pc, 0xEA) ∈ stores .pha s ∧ (lookup t.cfg.profile 0xEA).isSome = true) ∧
    (let s := { hosted 0x77 false with a := 0xE8 }
     ∃ t, exec (.staAbs 0x8002) s = .next t ∧ t.run = .running ∧ (hostTurn t).run = .running ∧
      t.pc ∉ t.cfg.hostWrites ∧ (t.pc, 0xE8) ∈ stores (.staAbs 0x8002) s) := by
  exact ⟨⟨_, rfl, rfl, rfl, rfl, List.mem_singleton.mpr rfl, rfl⟩, ⟨_, rfl, rfl, rfl, rfl, List.mem_singleton.mpr rfl, rfl⟩,
    ⟨_, rfl, rfl, rfl, rfl, List.mem_singleton.mpr rfl, rfl⟩, _, rfl, rfl, rfl, by decide, List.mem_singleton.mpr rfl⟩

/-- CoreProgramsAreStraightLine: a step of one, two and three bytes, the last past the top of memory. -/
theorem test_witness_straight_line :
    (let s := running .core 0x8000 [0xE8]
     s.cfg.profile = .core ∧ s.run = .running ∧ ∃ t, step s = .next t ∧ t.run = .running ∧ t.pc = s.pc + 1) ∧
    (let s := running .core 0x8000 [0xA9, 0x05]
     s.cfg.profile = .core ∧ s.run = .running ∧ ∃ t, step s = .next t ∧ t.run = .running ∧ t.pc = s.pc + 2) ∧
    (let s := running .core 0xFFFE [0xAD, 0x34, 0x12]
     s.cfg.profile = .core ∧ s.run = .running ∧ ∃ t, step s = .next t ∧ t.run = .running ∧ t.pc = s.pc + 3) := by
  exact ⟨⟨rfl, rfl, _, rfl, rfl, rfl⟩, ⟨rfl, rfl, _, rfl, rfl, rfl⟩, rfl, rfl, _, rfl, rfl, rfl⟩

/-- InvariantHoldsAtConstructionAndReset, EveryStepKeepsTheInvariant: a running machine with a program meets the invariant, its
step and the host's step answer a next state, and a load into it succeeds. -/
theorem test_witness_invariant :
    MachineInv (running .core 0x8000 [0xE8, 0x4C]) ∧ (∃ t, step (running .core 0x8000 [0xE8, 0x4C]) = .next t) ∧
      (∃ t, hostStep (running .core 0x8000 [0xE8, 0x4C]) = .next t) ∧
      (∃ t, loadProgram 0xFFFF [0x01] (running .core 0x8000 [0xE8, 0x4C]) = .ok t) ∧
      ∃ t, loadAndRun 0xFFFF [0x01] (running .core 0x8000 [0xE8, 0x4C]) = .ok t := by
  refine ⟨⟨by decide, by decide, by decide, by decide, by decide, ?_, by decide⟩, ⟨_, rfl⟩, ⟨_, rfl⟩, ⟨_, rfl⟩, _, rfl⟩
  intro f h
  cases h

/-- EveryStepKeepsTheInvariant: a machine that has just faulted meets the invariant, its fault clause included. -/
theorem test_witness_invariant_faulted :
    MachineInv { running .core 0x8000 [0x4C] with run := .faulted (.unrecognizedOpcode 0x4C) } := by
  refine ⟨by decide, by decide, by decide, by decide, by decide, ?_, by decide⟩
  intro f h
  cases h
  exact ⟨0x4C, rfl, by decide⟩


end Sys2Proof.Tests
end

section
/-!
SUPPORT. The frame of an instruction: what it may write besides memory and `pc`, by the tables of R21, R27 and R31. One
lemma per shared operation, then one over all instructions.
-/

namespace Sys2Proof.Machine

/-- What an instruction may write besides memory and `pc`, in the groups that R21, R27 and R31 list. -/
inductive Part where
  | reg (r : Reg)
  | carry
  | overflow
  | zeroNegative
  | sp

/-- The parts that R21, R27 and R31 list for an instruction. -/
def mayWrite (dest : LogicDest) (i : Instr) : Part → Bool
  | .reg r => writes r dest i
  | .carry => i.mnemonic ∈ ["ADC", "SBC", "ASL", "ASL_A", "LSR", "LSR_A", "ROL", "ROL_A", "ROR", "ROR_A", "CMP", "CPX",
      "CPY", "CLC", "SEC"]
  | .overflow => i.mnemonic ∈ ["ADC", "SBC", "BIT", "CLV"]
  | .zeroNegative => i.mnemonic ∉ ["STA", "STX", "STY", "PHA", "TXS", "NOP", "JMP", "JSR", "RTS", "BPL", "BMI", "BVC",
      "BVS", "BCC", "BCS", "BNE", "BEQ", "BRK", "CLC", "SEC", "CLV"]
  | .sp => i.mnemonic ∈ ["PHA", "PLA", "TXS", "JSR", "RTS"]

/-- `t` comes from `s` by writing parts in `P`, memory and `pc` alone; the run goes on as it was or is halted. -/
structure Frame (P : Part → Bool) (s t : State) : Prop where
  reg : ∀ r, P (.reg r) = false → t.reg r = s.reg r
  carry : P .carry = false → t.p.c = s.p.c
  overflow : P .overflow = false → t.p.v = s.p.v
  zeroNegative : P .zeroNegative = false → t.p.z = s.p.z ∧ t.p.n = s.p.n
  inert : t.p.i = s.p.i ∧ t.p.d = s.p.d ∧ t.p.b = s.p.b ∧ t.p.b2 = s.p.b2
  sp : P .sp = false → t.sp = s.sp
  run : t.run = s.run ∨ t.run = .halted

variable {P : Part → Bool}

theorem Frame.trans {s t u : State} (h : Frame P s t) (k : Frame P t u) : Frame P s u where
  reg r hr := (k.reg r hr).trans (h.reg r hr)
  carry hc := (k.carry hc).trans (h.carry hc)
  overflow hv := (k.overflow hv).trans (h.overflow hv)
  zeroNegative hz := by
    obtain ⟨hz', hn⟩ := h.zeroNegative hz
    obtain ⟨kz, kn⟩ := k.zeroNegative hz
    exact ⟨kz.trans hz', kn.trans hn⟩
  inert := by
    obtain ⟨hi, hd, hb, hb2⟩ := h.inert
    obtain ⟨ki, kd, kb, kb2⟩ := k.inert
    exact ⟨ki.trans hi, kd.trans hd, kb.trans hb, kb2.trans hb2⟩
  sp hs := (k.sp hs).trans (h.sp hs)
  run := by
    rcases k.run with hk | hk
    · rw [hk]; exact h.run
    · exact .inr hk

/-- An update of memory and `pc` alone writes no part. -/
theorem frame_of_eq {s t : State} (hr : ∀ r, t.reg r = s.reg r) (hp : t.p = s.p) (hs : t.sp = s.sp)
    (hrun : t.run = s.run) : Frame P s t :=
  ⟨fun r _ => hr r, fun _ => by rw [hp], fun _ => by rw [hp], fun _ => by simp [hp], by simp [hp], fun _ => hs, .inl hrun⟩

theorem frame_setPc (s : State) (w : Addr) : Frame P s (s.setPc w) := frame_of_eq (fun _ => rfl) rfl rfl rfl

theorem frame_advance (s : State) (n : Addr) : Frame P s (s.advance n) := frame_setPc s _

theorem frame_write (s : State) (k : Addr) (v : Byte) : Frame P s (s.write k v) := frame_of_eq (fun _ => rfl) rfl rfl rfl

theorem frame_halt (s : State) : Frame P s s.halt :=
  ⟨fun _ _ => rfl, fun _ => rfl, fun _ => rfl, fun _ => ⟨rfl, rfl⟩, ⟨rfl, rfl, rfl, rfl⟩, fun _ => rfl, .inr rfl⟩

theorem frame_setReg (s : State) {r : Reg} (v : Byte) (h : P (.reg r) = true) : Frame P s (s.setReg r v) where
  reg q hq := by
    have hne : q ≠ r := by rintro rfl; rw [h] at hq; cases hq
    rw [State.reg_setReg, if_neg hne]
  carry _ := by rw [State.setReg_p]
  overflow _ := by rw [State.setReg_p]
  zeroNegative _ := by simp
  inert := by simp
  sp _ := State.setReg_sp s r v
  run := .inl (State.setReg_run s r v)

theorem frame_setSP (s : State) (v : Byte) (h : P .sp = true) : Frame P s (s.setSP v) :=
  ⟨fun _ _ => rfl, fun _ => rfl, fun _ => rfl, fun _ => ⟨rfl, rfl⟩, ⟨rfl, rfl, rfl, rfl⟩, by simp [h], .inl rfl⟩

theorem frame_setC (s : State) (c : Bool) (h : P .carry = true) : Frame P s (s.setC c) :=
  ⟨fun _ _ => rfl, by simp [h], fun _ => rfl, fun _ => ⟨rfl, rfl⟩, ⟨rfl, rfl, rfl, rfl⟩, fun _ => rfl, .inl rfl⟩

theorem frame_setV (s : State) (v : Bool) (h : P .overflow = true) : Frame P s (s.setV v) :=
  ⟨fun _ _ => rfl, fun _ => rfl, by simp [h], fun _ => ⟨rfl, rfl⟩, ⟨rfl, rfl, rfl, rfl⟩, fun _ => rfl, .inl rfl⟩

theorem frame_setZN (s : State) (v : Byte) (h : P .zeroNegative = true) : Frame P s (s.setZN v) :=
  ⟨fun _ _ => rfl, fun _ => rfl, fun _ => rfl, by simp [h], ⟨rfl, rfl, rfl, rfl⟩, fun _ => rfl, .inl rfl⟩

theorem frame_setZ (s : State) (z : Bool) (h : P .zeroNegative = true) : Frame P s (s.setZ z) :=
  ⟨fun _ _ => rfl, fun _ => rfl, fun _ => rfl, by simp [h], ⟨rfl, rfl, rfl, rfl⟩, fun _ => rfl, .inl rfl⟩

theorem frame_setN (s : State) (n : Bool) (h : P .zeroNegative = true) : Frame P s (s.setN n) :=
  ⟨fun _ _ => rfl, fun _ => rfl, fun _ => rfl, by simp [h], ⟨rfl, rfl, rfl, rfl⟩, fun _ => rfl, .inl rfl⟩

theorem frame_load (s : State) {r : Reg} (v : Byte) (hr : P (.reg r) = true) (hz : P .zeroNegative = true) :
    Frame P s (s.load r v) := (frame_setReg s v hr).trans (frame_setZN _ v hz)

theorem frame_addWithCarry (s : State) (m : Byte) (ha : P (.reg .a) = true) (hc : P .carry = true)
    (hv : P .overflow = true) (hz : P .zeroNegative = true) : Frame P s (s.addWithCarry m) :=
  (frame_setC s _ hc).trans ((frame_setV _ _ hv).trans (frame_load _ _ ha hz))

theorem frame_compare (s : State) (r : Reg) (m : Byte) (hc : P .carry = true) (hz : P .zeroNegative = true) :
    Frame P s (s.compare r m) := (frame_setC s _ hc).trans (frame_setZN _ _ hz)

theorem frame_modify (s : State) (k : Addr) (v : Byte) (hz : P .zeroNegative = true) : Frame P s (s.modify k v) :=
  (frame_write s k v).trans (frame_setZN _ v hz)

theorem frame_shiftMem (s : State) (f : ShiftFn) (k : Addr) (hc : P .carry = true) (hz : P .zeroNegative = true) :
    Frame P s (s.shiftMem f k) := (frame_setC s _ hc).trans (frame_modify _ k _ hz)

theorem frame_shiftA (s : State) (f : ShiftFn) (ha : P (.reg .a) = true) (hc : P .carry = true)
    (hz : P .zeroNegative = true) : Frame P s (s.shiftA f) := (frame_setC s _ hc).trans (frame_load _ _ ha hz)

theorem frame_bit (o : Operand) (s : State) (hv : P .overflow = true) (hz : P .zeroNegative = true) :
    Frame P s (handleBit o s) := (frame_setZ s _ hz).trans ((frame_setN _ _ hz).trans (frame_setV _ _ hv))

theorem frame_push (s : State) (v : Byte) (h : P .sp = true) : Frame P s (s.push v) :=
  (frame_write s _ v).trans (frame_setSP _ _ h)

theorem runOperand_frame {handler : Operand → State → State} {o : Operand} {s : State} (h : Frame P s (handler o s)) :
    ∃ t, runOperand handler o s = .next t ∧ Frame P s t := ⟨_, rfl, h.trans (frame_advance _ _)⟩

theorem runImplied_frame {handler : State → State} {s : State} (h : Frame P s (handler s)) :
    ∃ t, runImplied handler s = .next t ∧ Frame P s t := ⟨_, rfl, h.trans (frame_advance _ _)⟩

theorem branchIf_frame (cond : Bool) (b1 : Byte) (s : State) : ∃ t, branchIf cond b1 s = .next t ∧ Frame P s t := by
  refine ⟨_, rfl, ?_⟩
  split
  · exact frame_setPc _ _
  · exact frame_advance _ _

/-- AND, ORA and EOR write `LOGIC_DEST` and no other register (R163). -/
theorem writes_of_logical {i : Instr} (r : Reg) (dest : LogicDest) (h : isLogical i = true) :
    writes r dest i = decide (r = logicReg dest) := by
  have hm : i.mnemonic = "AND" ∨ i.mnemonic = "ORA" ∨ i.mnemonic = "EOR" := by simpa [isLogical] using h
  rcases hm with hm | hm | hm <;> cases r <;> cases dest <;> simp [writes, isLogical, logicReg, hm]

theorem writes_logicReg {i : Instr} (dest : LogicDest) (h : isLogical i = true) : writes (logicReg dest) dest i = true :=
  (writes_of_logical _ dest h).trans (decide_eq_true rfl)

/-- Every instruction answers a next state and writes only the parts listed for it. -/
theorem exec_frame (i : Instr) (s : State) : ∃ t, exec i s = .next t ∧ Frame (mayWrite s.cfg.logicDest i) s t := by
  cases i
  case ldaImm | ldaZp | ldaZpX | ldaAbs | ldaAbsX | ldaAbsY | ldaIndX | ldaIndY | ldxImm | ldxZp | ldxZpY
      | ldxAbs | ldxAbsY | ldyImm | ldyZp | ldyZpX | ldyAbs | ldyAbsX =>
    exact runOperand_frame (frame_load _ _ rfl rfl)
  case andImm | andZp | andZpX | andAbs | andAbsX | andAbsY | andIndX | andIndY | oraImm | oraZp | oraZpX | oraAbs
      | oraAbsX | oraAbsY | oraIndX | oraIndY | eorImm | eorZp | eorZpX | eorAbs | eorAbsX | eorAbsY | eorIndX
      | eorIndY =>
    exact runOperand_frame (frame_load _ _ (writes_logicReg _ rfl) rfl)
  case staZp | staZpX | staAbs | staAbsX | staAbsY | staIndX | staIndY | stxZp | stxZpY | stxAbs | styZp
      | styZpX | styAbs =>
    exact runOperand_frame (frame_write _ _ _)
  case adcImm | adcZp | adcZpX | adcAbs | adcAbsX | adcAbsY | adcIndX | adcIndY | sbcImm | sbcZp | sbcZpX
      | sbcAbs | sbcAbsX | sbcAbsY | sbcIndX | sbcIndY =>
    exact runOperand_frame (frame_addWithCarry _ _ rfl rfl rfl rfl)
  case incZp | incZpX | incAbs | incAbsX | decZp | decZpX | decAbs | decAbsX =>
    exact runOperand_frame (frame_modify _ _ _ rfl)
  case cmpImm | cmpZp | cmpZpX | cmpAbs | cmpAbsX | cmpAbsY | cmpIndX | cmpIndY | cpxImm | cpxZp | cpxAbs
      | cpyImm | cpyZp | cpyAbs =>
    exact runOperand_frame (frame_compare _ _ _ rfl rfl)
  case bitZp | bitAbs => exact runOperand_frame (frame_bit _ _ rfl rfl)
  case aslZp | aslZpX | aslAbs | aslAbsX | lsrZp | lsrZpX | lsrAbs | lsrAbsX | rolZp | rolZpX | rolAbs
      | rolAbsX | rorZp | rorZpX | rorAbs | rorAbsX =>
    exact runOperand_frame (frame_shiftMem _ _ _ rfl rfl)
  case aslA | lsrA | rolA | rorA => exact runImplied_frame (frame_shiftA _ _ rfl rfl rfl)
  case inx | iny | dex | dey | tsx | tax | tay | txa | tya => exact runImplied_frame (frame_load _ _ rfl rfl)
  case pha => exact runImplied_frame (frame_push _ _ rfl)
  case pla => exact runImplied_frame ((frame_setSP _ _ rfl).trans (frame_load _ _ rfl rfl))
  case txs => exact runImplied_frame (frame_setSP _ _ rfl)
  case clc | sec => exact runImplied_frame (frame_setC _ _ rfl)
  case clv => exact runImplied_frame (frame_setV _ _ rfl)
  case nop => exact runImplied_frame (frame_of_eq (fun _ => rfl) rfl rfl rfl)
  case brk => exact runImplied_frame (frame_halt _)
  case bpl | bmi | bvc | bvs | bcc | bcs | bne | beq => exact branchIf_frame _ _ _
  case jmpAbs | jmpInd => exact ⟨_, rfl, frame_setPc _ _⟩
  case jsr => exact ⟨_, rfl, (frame_push _ _ rfl).trans ((frame_push _ _ rfl).trans (frame_setPc _ _))⟩
  case rts => exact ⟨_, rfl, (frame_setSP _ _ rfl).trans (frame_setPc _ _)⟩

/-- What an instruction's next state keeps, by the tables. -/
theorem exec_next_frame {i : Instr} {s t : State} (h : exec i s = .next t) : Frame (mayWrite s.cfg.logicDest i) s t := by
  obtain ⟨u, hu, hf⟩ := exec_frame i s
  rw [h] at hu
  cases hu
  exact hf

theorem exec_next_keeps {i : Instr} {s t : State} (h : exec i s = .next t) : Keeps s t := by
  obtain ⟨u, hu, hk⟩ := exec_keeps i s
  rw [h] at hu
  cases hu
  exact hk

/-- Settles O50: R31's and R27's tables are the parts of `exec_frame`. -/
theorem flagsAreWrittenAsTabulated : Obligations.FlagsAreWrittenAsTabulated := by
  intro i s t h
  have f := exec_next_frame h
  exact ⟨fun hc => f.carry (decide_eq_false hc), fun hv => f.overflow (decide_eq_false hv),
    fun hz => f.zeroNegative (decide_eq_false (not_not_intro hz)), f.inert, fun hs => f.sp (decide_eq_false hs)⟩

end Sys2Proof.Machine
end

section
/-!
SUPPORT. The machine's invariant, operation by operation: the host's operations, an instruction, a step, a run.
-/

namespace Sys2Proof

open Sys2Proof.Machine

/-- A row of the table builds instructions of the row's own profile (R101, R104). -/
theorem profile_instr {r : OpCode} (h : r ∈ opcodeTable) (b1 b2 : Byte) : (r.instr b1 b2).profile = r.profile := by
  have all : opcodeTable.all (fun q => decide ((q.instr b1 b2).profile = q.profile)) = true := rfl
  exact of_decide_eq_true (List.all_eq_true.mp all r h)

/-- No `CORE` instruction writes `SP` (R27, R101). -/
theorem mayWrite_sp_of_core {i : Instr} (dest : LogicDest) (h : i.profile = .core) : mayWrite dest i .sp = false := by
  cases i
  case pha | pla | txs | jsr | rts => cases h
  all_goals rfl

/-- The row that `CORE` finds for a byte builds an instruction that leaves `SP`. -/
theorem mayWrite_sp_of_lookup_core {c : Byte} {r : OpCode} (h : lookup .core c = some r) (dest : LogicDest)
    (b1 b2 : Byte) : mayWrite dest (r.instr b1 b2) .sp = false := by
  have hcore : r.profile = .core := by
    have hp := lookup_profile h
    cases hr : r.profile with
    | core => rfl
    | extended => rw [hr] at hp; cases hp
  exact mayWrite_sp_of_core dest ((profile_instr (lookup_mem h) b1 b2).trans hcore)

theorem machineInv_new (cfg : Config) : MachineInv (State.new cfg) :=
  ⟨rfl, rfl, rfl, rfl, rfl, (fun _ h => nomatch h), fun _ => rfl⟩

theorem machineInv_reset : MachineInv State.reset := ⟨rfl, rfl, rfl, rfl, rfl, (fun _ h => nomatch h), fun _ => rfl⟩

/-- An update of `pc`, the general registers, memory and the host's fields that leaves memory canonical keeps the
invariant. -/
theorem MachineInv.of_eq {s t : State} (hs : MachineInv s) (hm : t.mem.wf = true) (hp : t.p = s.p) (hc : t.cfg = s.cfg)
    (hsp : t.sp = s.sp) (hr : ∀ f, t.run = .faulted f → s.run = .faulted f) : MachineInv t where
  memory := hm
  inertI := by rw [hp, hc]; exact hs.inertI
  inertD := by rw [hp, hc]; exact hs.inertD
  inertB := by rw [hp, hc]; exact hs.inertB
  inertB2 := by rw [hp, hc]; exact hs.inertB2
  faulted f hf := by rw [hc]; exact hs.faulted f (hr f hf)
  coreSP h := by rw [hsp]; exact hs.coreSP (hc ▸ h)

theorem MachineInv.withMem {s : State} (hs : MachineInv s) {m : Memory} (hm : m.wf = true) :
    MachineInv { s with mem := m } := hs.of_eq hm rfl rfl rfl fun _ => id

theorem MachineInv.setPc {s : State} (hs : MachineInv s) (w : Addr) : MachineInv (s.setPc w) :=
  hs.of_eq hs.memory rfl rfl rfl fun _ => id

theorem MachineInv.startRun {s : State} (hs : MachineInv s) : MachineInv (startRun s) :=
  hs.of_eq hs.memory rfl rfl rfl fun _ h => nomatch h

/-- A fault recorded for a byte that the profile's table lacks is a genuine one (R243, R244). -/
theorem MachineInv.fault {s : State} (hs : MachineInv s) {code : Byte} (h : lookup s.cfg.profile code = none) :
    MachineInv (s.setRun (.faulted (.unrecognizedOpcode code))) :=
  { hs with faulted := by rintro f ⟨⟩; exact ⟨code, rfl, h⟩ }

theorem MachineInv.hostReset {s : State} (hs : MachineInv s) : MachineInv (hostReset s) :=
  ⟨hs.memory, rfl, rfl, rfl, rfl, hs.faulted, fun _ => rfl⟩

theorem MachineInv.setVector {s : State} (hs : MachineInv s) (base : Addr) : MachineInv (setVector base s) :=
  hs.withMem (Memory.wf_writeWord _ _ hs.memory)

theorem MachineInv.loadProgram {s t : State} (hs : MachineInv s) {base : Addr} {program : List Byte}
    (h : loadProgram base program s = .ok t) : MachineInv t := by
  unfold Machine.loadProgram at h
  split at h
  · cases h
  · cases h
    exact hs.withMem (Memory.wf_writeBytes _ _ hs.memory)

theorem MachineInv.loadAndRun {s t : State} (hs : MachineInv s) {base : Addr} {program : List Byte}
    (h : loadAndRun base program s = .ok t) : MachineInv t := by
  unfold Machine.loadAndRun at h
  cases hl : Machine.loadProgram base program s with
  | error f => rw [hl] at h; cases h
  | ok u =>
    rw [hl] at h
    cases h
    exact ((hs.loadProgram hl).setVector base).hostReset.startRun

/-- The host's turn keeps the invariant: it writes canonical memory and at most halts (R258). -/
theorem MachineInv.hostTurn {s : State} (hs : MachineInv s) : MachineInv (hostTurn s) := by
  have hrun : ∀ f, (Machine.hostTurn s).run = .faulted f → s.run = .faulted f := by
    intro f hf
    rcases hostTurn_run s with h | h
    · rw [← h, hf]
    · rw [h] at hf; cases hf
  have heq := hostTurn_eq s
  exact hs.of_eq (hostTurn_wf hs.memory) (by rw [heq]) (by rw [heq]) (by rw [heq]) hrun

/-- An instruction that leaves `SP` where the profile is `CORE` keeps the invariant. -/
theorem MachineInv.exec {s t : State} (hs : MachineInv s) {i : Instr} (h : exec i s = .next t)
    (hi : s.cfg.profile = .core → mayWrite s.cfg.logicDest i .sp = false) : MachineInv t := by
  have k := exec_next_keeps h
  have f := exec_next_frame h
  obtain ⟨hI, hD, hB, hB2⟩ := f.inert
  refine ⟨k.memory hs.memory, ?_, ?_, ?_, ?_, fun e he => ?_, fun hc => ?_⟩
  · rw [hI, k.cfg]; exact hs.inertI
  · rw [hD, k.cfg]; exact hs.inertD
  · rw [hB, k.cfg]; exact hs.inertB
  · rw [hB2, k.cfg]; exact hs.inertB2
  · rw [k.cfg]
    rcases f.run with hr | hr
    · exact hs.faulted e (hr ▸ he)
    · rw [hr] at he; cases he
  · rw [k.cfg] at hc
    rw [f.sp (hi hc)]
    exact hs.coreSP hc

theorem MachineInv.cpuStep {s t : State} (hs : MachineInv s) (h : cpuStep s = .next t) : MachineInv t := by
  rcases cpuStep_cases s with ⟨hl, hc⟩ | ⟨r, hl, hc⟩
  · rw [hc] at h
    cases h
    exact (hs.setPc _).fault hl
  · rw [hc] at h
    refine (hs.setPc _).exec h fun hp => ?_
    rw [State.setPc_cfg] at hp
    exact mayWrite_sp_of_lookup_core (hp ▸ hl) _ _ _

theorem MachineInv.fullStep {s t : State} (hs : MachineInv s) (h : fullStep s = .next t) : MachineInv t := by
  rcases fullStep_cases s with ⟨hf, -⟩ | ⟨hf, -⟩ <;> rw [hf] at h
  · cases h
    exact hs.hostTurn
  · exact hs.hostTurn.cpuStep h

theorem MachineInv.step {s t : State} (hs : MachineInv s) (h : step s = .next t) : MachineInv t :=
  hs.startRun.fullStep (step_cases h).2

/-- One more step of `run()`'s loop: it goes on from a step's next state, and stays where there is none. -/
theorem runLoop_succ_cases (k : Nat) (s : State) :
    (∃ t, s.run = .running ∧ step s = .next t ∧ runLoop (k + 1) s = runLoop k t) ∨ runLoop (k + 1) s = s := by
  rw [runLoop]
  split
  · split
    · exact .inl ⟨_, ‹_›, ‹_›, rfl⟩
    · exact .inr rfl
  · exact .inr rfl

theorem MachineInv.runLoop {s : State} (hs : MachineInv s) (k : Nat) : MachineInv (runLoop k s) := by
  induction k generalizing s with
  | zero => exact hs
  | succ k ih =>
    rcases runLoop_succ_cases k s with ⟨t, -, ht, hk⟩ | hk <;> rw [hk]
    · exact ih (hs.step ht)
    · exact hs

/-- Settles O59: a step is the host's turn, then a genuine fault or an instruction that keeps the invariant. -/
theorem everyStepKeepsTheInvariant : Obligations.EveryStepKeepsTheInvariant :=
  fun _ _ hs h => hs.step h

/-- Settles O58: the base cases, and one lemma per operation of the host. -/
theorem invariantHoldsAtConstructionAndReset : Obligations.InvariantHoldsAtConstructionAndReset := by
  exact ⟨machineInv_reset, machineInv_new, fun s hs => ⟨hs.hostReset, hs.startRun, hs.hostTurn, hs.setVector,
    fun k v => hs.withMem (Memory.wf_write k v hs.memory), fun k w => hs.withMem (Memory.wf_writeWord k w hs.memory),
    fun _ _ _ h => hs.loadProgram h, fun _ _ _ h => hs.loadAndRun h, fun _ h => hs.startRun.step h,
    fun k => hs.startRun.runLoop k⟩⟩

end Sys2Proof
end

section
/-!
SUPPORT. The construction state, the status byte, and what the host's `step()` and `run()` do.
-/

namespace Sys2Proof.Machine

/-- Settles O9: new() assigns each register, and empty memory reads zero. -/
theorem constructionState : Obligations.ConstructionState :=
  fun _ => ⟨rfl, rfl, rfl, rfl, rfl, rfl, Memory.read_nil, rfl⟩

theorem flagByte_getLsbD (c : Bool) (k : Nat) : (flagByte c).getLsbD k = (decide (k = 0) && c) := by
  cases c <;> simp [flagByte, BitVec.getLsbD_one]

/-- The byte that shows the flags has, bit by bit, the flags it was made from (R30). -/
theorem Flags.toByte_ofByte (b : Byte) : (Flags.ofByte b).toByte = b := by
  apply BitVec.eq_of_getLsbD_eq
  intro k hk
  simp only [Flags.toByte, Flags.ofByte, BitVec.getLsbD_or, BitVec.getLsbD_shiftLeft, flagByte_getLsbD]
  have hbit : k = 0 ∨ k = 1 ∨ k = 2 ∨ k = 3 ∨ k = 4 ∨ k = 5 ∨ k = 6 ∨ k = 7 := by omega
  rcases hbit with rfl | rfl | rfl | rfl | rfl | rfl | rfl | rfl <;> simp

/-- Settles O12, by the round trip of the status byte. -/
theorem statusByteLayout : Obligations.StatusByteLayout :=
  ⟨fun b => ⟨Flags.toByte_ofByte b, rfl⟩, rfl, rfl⟩

theorem cpuStep_total (s : State) : ∃ t, cpuStep s = .next t := by
  rcases cpuStep_cases s with ⟨-, h⟩ | ⟨r, -, h⟩
  · exact ⟨_, h⟩
  · obtain ⟨t, ht, -⟩ := exec_keeps (r.instr (s.read (s.pc + 1)) (s.read (s.pc + 1 + 1))) (s.setPc (s.pc + 1))
    exact ⟨t, h.trans ht⟩

theorem fullStep_total (s : State) : ∃ t, fullStep s = .next t := by
  rcases fullStep_cases s with ⟨h, -⟩ | ⟨h, -⟩
  · exact ⟨_, h⟩
  · rw [h]; exact cpuStep_total _

/-- A host's `step()` is the full step of the started machine (R275). -/
theorem hostStep_eq (s : State) : hostStep s = fullStep (startRun s) := step_of_running rfl

theorem runLoop_of_not_running {s : State} (h : s.run ≠ .running) (k : Nat) : runLoop k s = s := by
  cases k with
  | zero => rfl
  | succ k =>
    rw [runLoop]
    split
    · exact absurd ‹_› h
    · rfl

/-- `run()`'s loop goes on from the state a step leaves (R274). -/
theorem runLoop_of_step {s t : State} (hr : s.run = .running) (h : step s = .next t) (k : Nat) :
    runLoop (k + 1) s = runLoop k t := by
  rw [runLoop]
  simp only [hr, h]

/-- Settles O54, by the step's totality from `running` and the two equations of `run()`'s loop. -/
theorem endedRunsStepOnlyByTheHost : Obligations.EndedRunsStepOnlyByTheHost := by
  intro s
  obtain ⟨t, ht⟩ := fullStep_total (startRun s)
  have hstep : hostStep s = .next t := (hostStep_eq s).trans ht
  exact ⟨step_of_halted, fun _ => step_of_faulted, hostStep_eq s, fun h => (step_of_idle h).trans (hostStep_eq s).symm,
    rfl, ⟨t, hstep, runLoop_of_step rfl hstep⟩, rfl, runLoop_of_not_running, fun k _ hr h => runLoop_of_step hr h k⟩

end Sys2Proof.Machine
end

section
/-!
SUPPORT. A register that an instruction does not read has no influence (R21): how each shared operation acts on a state
in which one register holds another value, then every instruction.
-/

namespace Sys2Proof.Machine

section Commute

variable (s : State) (r : Reg) (v : Byte)

theorem State.setPc_setReg (w : Addr) : (s.setReg r v).setPc w = (s.setPc w).setReg r v := by cases r <;> rfl

theorem State.advance_setReg (n : Addr) : (s.setReg r v).advance n = (s.advance n).setReg r v := by cases r <;> rfl

theorem State.write_setReg (k : Addr) (b : Byte) : (s.setReg r v).write k b = (s.write k b).setReg r v := by
  cases r <;> rfl

theorem State.setRun_setReg (x : RunState) : (s.setReg r v).setRun x = (s.setRun x).setReg r v := by cases r <;> rfl

theorem State.setSP_setReg (b : Byte) : (s.setReg r v).setSP b = (s.setSP b).setReg r v := by cases r <;> rfl

theorem State.setC_setReg (c : Bool) : (s.setReg r v).setC c = (s.setC c).setReg r v := by cases r <;> rfl

theorem State.setV_setReg (c : Bool) : (s.setReg r v).setV c = (s.setV c).setReg r v := by cases r <;> rfl

theorem State.setZ_setReg (z : Bool) : (s.setReg r v).setZ z = (s.setZ z).setReg r v := by cases r <;> rfl

theorem State.setN_setReg (n : Bool) : (s.setReg r v).setN n = (s.setN n).setReg r v := by cases r <;> rfl

theorem State.setZN_setReg (b : Byte) : (s.setReg r v).setZN b = (s.setZN b).setReg r v := by cases r <;> rfl

theorem State.read_setReg (k : Addr) : (s.setReg r v).read k = s.read k := by rw [State.read_eq, State.setReg_mem]; rfl

theorem State.modify_setReg (k : Addr) (b : Byte) : (s.setReg r v).modify k b = (s.modify k b).setReg r v := by
  rw [State.modify, State.write_setReg, State.setZN_setReg, ← State.modify]

theorem State.shiftMem_setReg (f : ShiftFn) (k : Addr) :
    (s.setReg r v).shiftMem f k = (s.shiftMem f k).setReg r v := by
  simp only [State.shiftMem, State.read_setReg, State.setReg_p, State.setC_setReg, State.modify_setReg]

theorem State.push_setReg (b : Byte) : (s.setReg r v).push b = (s.push b).setReg r v := by
  simp only [State.push, State.setReg_sp, State.write_setReg, State.setSP_setReg]

/-- A load overwrites its own register and leaves the other value in another one. -/
theorem State.load_setReg (q : Reg) (b : Byte) :
    (s.setReg r v).load q b = if r = q then s.load q b else (s.load q b).setReg r v := by
  cases r <;> cases q <;> rfl

variable {r}

theorem State.compare_setReg {q : Reg} (h : r ≠ q) (m : Byte) :
    (s.setReg r v).compare q m = (s.compare q m).setReg r v := by
  simp only [State.compare, State.reg_setReg, if_neg h.symm, State.setC_setReg, State.setZN_setReg]

theorem State.a_setReg (h : r ≠ .a) : (s.setReg r v).a = s.a := by
  rw [← State.reg_a, State.reg_setReg, if_neg h.symm, State.reg_a]

theorem State.x_setReg (h : r ≠ .x) : (s.setReg r v).x = s.x := by
  rw [← State.reg_x, State.reg_setReg, if_neg h.symm, State.reg_x]

theorem State.addWithCarry_setReg (h : r ≠ .a) (m : Byte) :
    (s.setReg r v).addWithCarry m = (s.addWithCarry m).setReg r v := by
  simp only [State.addWithCarry, State.a_setReg s v h, State.setReg_p, State.setC_setReg, State.setV_setReg,
    State.load_setReg, if_neg h]

theorem State.shiftA_setReg (h : r ≠ .a) (f : ShiftFn) : (s.setReg r v).shiftA f = (s.shiftA f).setReg r v := by
  simp only [State.shiftA, State.a_setReg s v h, State.setReg_p, State.setC_setReg, State.load_setReg, if_neg h]

end Commute

section Blind

variable {i : Instr} {r : Reg} {v : Byte} {s : State}

/-- A register that `i` does not read is none that `i` reads. -/
theorem ne_of_reads {q : Reg} (h : reads r i = false) (hq : reads q i = true) : r ≠ q := by
  rintro rfl
  rw [h] at hq
  cases hq

/-- The effective address depends on the registers the mode reads alone (R90 to R98). -/
theorem ea_setReg {o : Operand} (hm : i.mode = o.mode) (h : reads r i = false) : o.ea (s.setReg r v) = o.ea s := by
  have hx : i.mode ∈ [AddressingMode.zeroPageX, .absoluteX, .indirectX] → r ≠ .x := fun hi =>
    ne_of_reads h (by simp [reads, hi])
  have hy : i.mode ∈ [AddressingMode.zeroPageY, .absoluteY, .indirectY] → r ≠ .y := fun hi =>
    ne_of_reads h (by simp [reads, hi])
  cases o <;> cases r <;> simp_all [Operand.mode, Operand.ea]

theorem value_setReg {o : Operand} (hm : i.mode = o.mode) (h : reads r i = false) :
    o.value (s.setReg r v) = o.value s := by
  have hea := ea_setReg (s := s) (v := v) hm h
  cases o
  case immediate => rfl
  all_goals exact (State.read_setReg s r v _).trans (congrArg s.read hea)

/-- The next state `t` of the run from `s`, seen from the run in which `r` started with `v`. -/
def seenWith (i : Instr) (r : Reg) (v : Byte) (s t : State) : State :=
  if writes r s.cfg.logicDest i then t else t.setReg r v

/-- Started with `v` in `r`, the instruction gives the same next state but for `r`, which keeps `v` unless it is written. -/
def Ignores (i : Instr) (r : Reg) (v : Byte) (s : State) : Prop :=
  ∃ t, exec i s = .next t ∧ exec i (s.setReg r v) = .next (seenWith i r v s t)

theorem seenWith_advance (t : State) (n : Addr) : (seenWith i r v s t).advance n = seenWith i r v s (t.advance n) := by
  unfold seenWith
  split
  · rfl
  · exact State.advance_setReg t r v n

/-- An instruction that does not write `r` leaves `v` there. -/
theorem seenWith_of_not_writes {t : State} (h : writes r s.cfg.logicDest i = false) :
    t.setReg r v = seenWith i r v s t := by
  rw [seenWith, h]; rfl

/-- An instruction that loads `q` and writes no other register. -/
theorem load_seenWith {q : Reg} (u : State) (b : Byte) (h : writes r s.cfg.logicDest i = decide (r = q)) :
    (u.setReg r v).load q b = seenWith i r v s (u.load q b) := by
  rw [seenWith, h, State.load_setReg]
  simp only [decide_eq_true_eq]

/-- An instruction whose handler uses its operand through the operand's byte alone. -/
theorem ignores_of_value {o : Operand} (g : Byte → State → State)
    (he : ∀ u, exec i u = runOperand (fun o u => g (o.value u) u) o u) (hm : i.mode = o.mode) (h : reads r i = false)
    (hg : ∀ b, g b (s.setReg r v) = seenWith i r v s (g b s)) : Ignores i r v s := by
  refine ⟨_, he s, ?_⟩
  rw [he, runOperand, value_setReg hm h, hg, seenWith_advance]

/-- An instruction whose handler uses its operand through the effective address alone. -/
theorem ignores_of_ea {o : Operand} (g : Addr → State → State)
    (he : ∀ u, exec i u = runOperand (fun o u => g (o.ea u) u) o u) (hm : i.mode = o.mode) (h : reads r i = false)
    (hg : ∀ k, g k (s.setReg r v) = seenWith i r v s (g k s)) : Ignores i r v s := by
  refine ⟨_, he s, ?_⟩
  rw [he, runOperand, ea_setReg hm h, hg, seenWith_advance]

/-- An instruction without operand bytes, or one that transfers. -/
theorem ignores_of_next (f : State → State) (he : ∀ u, exec i u = .next (f u))
    (hf : f (s.setReg r v) = seenWith i r v s (f s)) : Ignores i r v s :=
  ⟨_, he s, by rw [he, hf]⟩

theorem ignores_of_implied {f : State → State} (he : ∀ u, exec i u = runImplied f u)
    (hf : f (s.setReg r v) = seenWith i r v s (f s)) : Ignores i r v s :=
  ignores_of_next (fun u => (f u).advance 0) he (by rw [hf, seenWith_advance])

theorem ignores_of_branch {b1 : Byte} (cond : Flags → Bool) (he : ∀ u, exec i u = branchIf (cond u.p) b1 u)
    (hw : writes r s.cfg.logicDest i = false) : Ignores i r v s := by
  refine ignores_of_next _ he ?_
  rw [State.setReg_p, ← seenWith_of_not_writes hw]
  split
  · rw [branchTarget, State.setReg_pc, State.setPc_setReg]; rfl
  · exact State.advance_setReg s r v 1


/-- An instruction that writes `q` alone leaves `v` in another register. -/
theorem seenWith_of_ne {q : Reg} {t : State} (hq : r ≠ q) (hw : writes r s.cfg.logicDest i = decide (r = q)) :
    t.setReg r v = seenWith i r v s t :=
  seenWith_of_not_writes (hw.trans (decide_eq_false hq))

/-- LDA, LDX, LDY (R123). -/
theorem ignores_of_load {o : Operand} {q : Reg}
    (he : ∀ u, exec i u = runOperand (fun o u => u.load q (o.value u)) o u) (hm : i.mode = o.mode)
    (h : reads r i = false) (hw : writes r s.cfg.logicDest i = decide (r = q)) : Ignores i r v s :=
  ignores_of_value (fun b u => u.load q b) he hm h fun b => load_seenWith s b hw

/-- AND, ORA and EOR read `A` and load `LOGIC_DEST` (R163). -/
theorem ignores_of_logical {o : Operand} (op : Byte → Byte → Byte)
    (he : ∀ u, exec i u = runOperand (fun o u => u.load (logicReg u.cfg.logicDest) (op u.a (o.value u))) o u)
    (hm : i.mode = o.mode) (h : reads r i = false) (ha : reads .a i = true) (hi : isLogical i = true) :
    Ignores i r v s := by
  refine ignores_of_value (fun b u => u.load (logicReg u.cfg.logicDest) (op u.a b)) he hm h fun b => ?_
  rw [State.setReg_cfg, State.a_setReg s v (ne_of_reads h ha)]
  exact load_seenWith s _ (writes_of_logical r _ hi)

/-- ADC and SBC, which adds its operand inverted (R141). -/
theorem ignores_of_addWithCarry {o : Operand} (f : Byte → Byte)
    (he : ∀ u, exec i u = runOperand (fun o u => u.addWithCarry (f (o.value u))) o u) (hm : i.mode = o.mode)
    (h : reads r i = false) (ha : reads .a i = true) (hw : writes r s.cfg.logicDest i = decide (r = .a)) :
    Ignores i r v s :=
  ignores_of_value (fun b u => u.addWithCarry (f b)) he hm h fun _ =>
    (State.addWithCarry_setReg s v (ne_of_reads h ha) _).trans (seenWith_of_ne (ne_of_reads h ha) hw)

/-- CMP, CPX, CPY (R149). -/
theorem ignores_of_compare {o : Operand} {q : Reg}
    (he : ∀ u, exec i u = runOperand (fun o u => u.compare q (o.value u)) o u) (hm : i.mode = o.mode)
    (h : reads r i = false) (hq : reads q i = true) (hw : writes r s.cfg.logicDest i = false) : Ignores i r v s :=
  ignores_of_value (fun b u => u.compare q b) he hm h fun b =>
    (State.compare_setReg s v (ne_of_reads h hq) b).trans (seenWith_of_not_writes hw)

/-- BIT (R164). -/
theorem ignores_of_bit {o : Operand} (he : ∀ u, exec i u = runOperand handleBit o u) (hm : i.mode = o.mode)
    (h : reads r i = false) (ha : reads .a i = true) (hw : writes r s.cfg.logicDest i = false) : Ignores i r v s := by
  refine ignores_of_value (fun b u => ((u.setZ (u.a &&& b == 0)).setN (bit7 b)).setV (bit6 b)) he hm h fun b => ?_
  rw [State.a_setReg s v (ne_of_reads h ha), State.setZ_setReg, State.setN_setReg, State.setV_setReg]
  exact seenWith_of_not_writes hw

/-- STA, STX, STY (R130). -/
theorem ignores_of_store {o : Operand} {q : Reg}
    (he : ∀ u, exec i u = runOperand (fun o u => u.write (o.ea u) (u.reg q)) o u) (hm : i.mode = o.mode)
    (h : reads r i = false) (hq : reads q i = true) (hw : writes r s.cfg.logicDest i = false) : Ignores i r v s := by
  refine ignores_of_ea (fun k u => u.write k (u.reg q)) he hm h fun k => ?_
  rw [State.reg_setReg, if_neg (ne_of_reads h hq).symm, State.write_setReg]
  exact seenWith_of_not_writes hw

/-- INC and DEC (R147, R148). -/
theorem ignores_of_modify {o : Operand} (f : Byte → Byte)
    (he : ∀ u, exec i u = runOperand (fun o u => u.modify (o.ea u) (f (u.read (o.ea u)))) o u) (hm : i.mode = o.mode)
    (h : reads r i = false) (hw : writes r s.cfg.logicDest i = false) : Ignores i r v s := by
  refine ignores_of_ea (fun k u => u.modify k (f (u.read k))) he hm h fun k => ?_
  rw [State.read_setReg, State.modify_setReg]
  exact seenWith_of_not_writes hw

/-- The shifts and rotations of memory (R170, R178). -/
theorem ignores_of_shiftMem {o : Operand} {f : ShiftFn}
    (he : ∀ u, exec i u = runOperand (fun o u => u.shiftMem f (o.ea u)) o u) (hm : i.mode = o.mode)
    (h : reads r i = false) (hw : writes r s.cfg.logicDest i = false) : Ignores i r v s :=
  ignores_of_ea (fun k u => u.shiftMem f k) he hm h fun k =>
    (State.shiftMem_setReg s r v f k).trans (seenWith_of_not_writes hw)

/-- The shifts and rotations of `A` (R171, R173, R175, R177). -/
theorem ignores_of_shiftA {f : ShiftFn} (he : ∀ u, exec i u = runImplied (fun u => u.shiftA f) u) (hr : r ≠ .a)
    (hw : writes r s.cfg.logicDest i = decide (r = .a)) : Ignores i r v s :=
  ignores_of_implied he ((State.shiftA_setReg s v hr f).trans (seenWith_of_ne hr hw))

/-- The transfers and the register increments and decrements load `q` from a register `p` that they read (R143, R220). -/
theorem ignores_of_transfer {p q : Reg} (f : Byte → Byte)
    (he : ∀ u, exec i u = runImplied (fun u => u.load q (f (u.reg p))) u) (hp : r ≠ p)
    (hw : writes r s.cfg.logicDest i = decide (r = q)) : Ignores i r v s := by
  refine ignores_of_implied he ?_
  rw [State.reg_setReg, if_neg hp.symm]
  exact load_seenWith s _ hw

/-- An instruction without operand bytes that writes no general register. -/
theorem ignores_of_kept {f : State → State} (he : ∀ u, exec i u = runImplied f u)
    (hw : writes r s.cfg.logicDest i = false) (hf : f (s.setReg r v) = (f s).setReg r v) : Ignores i r v s :=
  ignores_of_implied he (hf.trans (seenWith_of_not_writes hw))

/-- A control transfer. -/
theorem ignores_of_jump (f : State → State) (he : ∀ u, exec i u = .next (f u))
    (hw : writes r s.cfg.logicDest i = false) (hf : f (s.setReg r v) = (f s).setReg r v) : Ignores i r v s :=
  ignores_of_next f he (hf.trans (seenWith_of_not_writes hw))

theorem handleJmpInd_setReg (w : Addr) : handleJmpInd w (s.setReg r v) = (handleJmpInd w s).setReg r v := by
  simp only [handleJmpInd, jmpIndTarget, State.read_setReg, State.setPc_setReg]

theorem handleJsr_setReg (w : Addr) : handleJsr w (s.setReg r v) = (handleJsr w s).setReg r v := by
  simp only [handleJsr, State.push16, State.setReg_pc, State.push_setReg, State.setPc_setReg]

theorem handleRts_setReg : handleRts (s.setReg r v) = (handleRts s).setReg r v := by
  simp only [handleRts, State.pop16_eq, State.setReg_sp, State.read_setReg, State.setSP_setReg, State.setPc_setReg]

/-- PLA pops into `A`, whatever the registers hold (R210). -/
theorem handlePla_seenWith (hw : writes r s.cfg.logicDest i = decide (r = .a)) :
    handlePla (s.setReg r v) = seenWith i r v s (handlePla s) := by
  simp only [handlePla, State.pop_eq, State.setReg_sp, State.read_setReg, State.setSP_setReg]
  exact load_seenWith _ _ hw

/-- A register that an instruction does not read has no influence on it (R21). -/
theorem exec_ignores (h : reads r i = false) : Ignores i r v s := by
  cases i
  case ldaImm | ldaZp | ldaZpX | ldaAbs | ldaAbsX | ldaAbsY | ldaIndX | ldaIndY | ldxImm | ldxZp | ldxZpY
      | ldxAbs | ldxAbsY | ldyImm | ldyZp | ldyZpX | ldyAbs | ldyAbsX =>
    exact ignores_of_load (fun _ => rfl) rfl h (by cases r <;> rfl)
  case andImm | andZp | andZpX | andAbs | andAbsX | andAbsY | andIndX | andIndY =>
    exact ignores_of_logical (· &&& ·) (fun _ => rfl) rfl h rfl rfl
  case oraImm | oraZp | oraZpX | oraAbs | oraAbsX | oraAbsY | oraIndX | oraIndY =>
    exact ignores_of_logical (· ||| ·) (fun _ => rfl) rfl h rfl rfl
  case eorImm | eorZp | eorZpX | eorAbs | eorAbsX | eorAbsY | eorIndX | eorIndY =>
    exact ignores_of_logical (· ^^^ ·) (fun _ => rfl) rfl h rfl rfl
  case staZp | staZpX | staAbs | staAbsX | staAbsY | staIndX | staIndY | stxZp | stxZpY | stxAbs | styZp
      | styZpX | styAbs =>
    exact ignores_of_store (fun _ => rfl) rfl h rfl (by cases r <;> rfl)
  case adcImm | adcZp | adcZpX | adcAbs | adcAbsX | adcAbsY | adcIndX | adcIndY =>
    exact ignores_of_addWithCarry id (fun _ => rfl) rfl h rfl (by cases r <;> rfl)
  case sbcImm | sbcZp | sbcZpX | sbcAbs | sbcAbsX | sbcAbsY | sbcIndX | sbcIndY =>
    exact ignores_of_addWithCarry (~~~·) (fun _ => rfl) rfl h rfl (by cases r <;> rfl)
  case incZp | incZpX | incAbs | incAbsX =>
    exact ignores_of_modify (· + 1) (fun _ => rfl) rfl h (by cases r <;> rfl)
  case decZp | decZpX | decAbs | decAbsX =>
    exact ignores_of_modify (· - 1) (fun _ => rfl) rfl h (by cases r <;> rfl)
  case cmpImm | cmpZp | cmpZpX | cmpAbs | cmpAbsX | cmpAbsY | cmpIndX | cmpIndY | cpxImm | cpxZp | cpxAbs
      | cpyImm | cpyZp | cpyAbs =>
    exact ignores_of_compare (fun _ => rfl) rfl h rfl (by cases r <;> rfl)
  case bitZp | bitAbs => exact ignores_of_bit (fun _ => rfl) rfl h rfl (by cases r <;> rfl)
  case aslZp | aslZpX | aslAbs | aslAbsX | lsrZp | lsrZpX | lsrAbs | lsrAbsX | rolZp | rolZpX | rolAbs
      | rolAbsX | rorZp | rorZpX | rorAbs | rorAbsX =>
    exact ignores_of_shiftMem (fun _ => rfl) rfl h (by cases r <;> rfl)
  case aslA | lsrA | rolA | rorA =>
    exact ignores_of_shiftA (fun _ => rfl) (ne_of_reads h rfl) (by cases r <;> rfl)
  case inx | iny => exact ignores_of_transfer (· + 1) (fun _ => rfl) (ne_of_reads h rfl) (by cases r <;> rfl)
  case dex | dey => exact ignores_of_transfer (· - 1) (fun _ => rfl) (ne_of_reads h rfl) (by cases r <;> rfl)
  case tax | tay | txa | tya => exact ignores_of_transfer id (fun _ => rfl) (ne_of_reads h rfl) (by cases r <;> rfl)
  case bpl => exact ignores_of_branch (!·.n) (fun _ => rfl) (by cases r <;> rfl)
  case bmi => exact ignores_of_branch (·.n) (fun _ => rfl) (by cases r <;> rfl)
  case bvc => exact ignores_of_branch (!·.v) (fun _ => rfl) (by cases r <;> rfl)
  case bvs => exact ignores_of_branch (·.v) (fun _ => rfl) (by cases r <;> rfl)
  case bcc => exact ignores_of_branch (!·.c) (fun _ => rfl) (by cases r <;> rfl)
  case bcs => exact ignores_of_branch (·.c) (fun _ => rfl) (by cases r <;> rfl)
  case bne => exact ignores_of_branch (!·.z) (fun _ => rfl) (by cases r <;> rfl)
  case beq => exact ignores_of_branch (·.z) (fun _ => rfl) (by cases r <;> rfl)
  case jmpAbs w =>
    exact ignores_of_jump (handleJmpAbs w) (fun _ => rfl) (by cases r <;> rfl) (State.setPc_setReg s r v w)
  case jmpInd w => exact ignores_of_jump _ (fun _ => rfl) (by cases r <;> rfl) (handleJmpInd_setReg w)
  case jsr w => exact ignores_of_jump _ (fun _ => rfl) (by cases r <;> rfl) (handleJsr_setReg w)
  case rts => exact ignores_of_jump _ (fun _ => rfl) (by cases r <;> rfl) handleRts_setReg
  case pha =>
    refine ignores_of_kept (fun _ => rfl) (by cases r <;> rfl) ?_
    rw [handlePha, State.a_setReg s v (ne_of_reads h rfl), State.push_setReg, ← handlePha]
  case pla => exact ignores_of_implied (fun _ => rfl) (handlePla_seenWith (by cases r <;> rfl))
  case txs =>
    refine ignores_of_kept (fun _ => rfl) (by cases r <;> rfl) ?_
    rw [handleTxs, State.x_setReg s v (ne_of_reads h rfl), State.setSP_setReg, ← handleTxs]
  case tsx =>
    refine ignores_of_implied (fun _ => rfl) ?_
    rw [handleTsx, State.setReg_sp]
    exact load_seenWith s _ (by cases r <;> rfl)
  case brk => exact ignores_of_kept (fun _ => rfl) (by cases r <;> rfl) (State.setRun_setReg s r v _)
  case clc | sec => exact ignores_of_kept (fun _ => rfl) (by cases r <;> rfl) (State.setC_setReg s r v _)
  case clv => exact ignores_of_kept (fun _ => rfl) (by cases r <;> rfl) (State.setV_setReg s r v _)
  case nop => exact ignores_of_kept (fun _ => rfl) (by cases r <;> rfl) rfl

end Blind

/-- Settles O49: the frame of an instruction, and its indifference to what it does not read. -/
theorem registersAreWrittenAndReadAsTabulated : Obligations.RegistersAreWrittenAndReadAsTabulated := by
  intro i r s t h
  refine ⟨(exec_next_frame h).reg r, fun hr v => ?_⟩
  obtain ⟨u, hu, hv⟩ := exec_ignores (v := v) (s := s) hr
  rw [h] at hu
  cases hu
  exact hv

end Sys2Proof.Machine
end

section
/-!
SUPPORT. Memory's words, the copy of a program, and what an instruction's stores leave for the next fetch (R52 to R55, R60,
R66).
-/

namespace Sys2Proof.Machine

/-- Settles O14: the pointer `p +8 1` is a byte, and 0xFF + 1 is 0x00. -/
theorem zeroPagePointerWrapsInThePage : Obligations.ZeroPagePointerWrapsInThePage :=
  fun _ p => ⟨rfl, Nat.lt_of_le_of_lt (Nat.le_of_eq (zext16_toNat (p + 1))) (p + 1).isLt, rfl⟩

/-- The two cells of a word are different cells, at 0xFFFF too (R54). -/
theorem ne_add_one (a : Addr) : a ≠ a + 1 := by bv_omega

theorem Memory.read_writeWord_low (m : Memory) (a w : Addr) : (m.writeWord a w).read a = loByte w := by
  rw [Memory.writeWord, Memory.read_write_ne _ _ (ne_add_one a), Memory.read_write_self]

theorem Memory.read_writeWord_high (m : Memory) (a w : Addr) : (m.writeWord a w).read (a + 1) = hiByte w :=
  Memory.read_write_self _ _ _

theorem Memory.read_writeWord_ne (m : Memory) {a k : Addr} (w : Addr) (hlow : k ≠ a) (hhigh : k ≠ a + 1) :
    (m.writeWord a w).read k = m.read k :=
  (Memory.read_write_ne _ _ hhigh).trans (Memory.read_write_ne _ _ hlow)

theorem Memory.readWord_writeWord (m : Memory) (a w : Addr) : (m.writeWord a w).readWord a = w := by
  rw [Memory.readWord, Memory.read_writeWord_low, Memory.read_writeWord_high, pair_hiByte_loByte]

/-- Settles O13, by what a word write leaves at its low cell, its high cell and every other. -/
theorem wordRoundTripAtEveryAddress : Obligations.WordRoundTripAtEveryAddress :=
  fun m a w => ⟨m.readWord_writeWord a w, rfl, m.read_writeWord_low a w, m.read_writeWord_high a w,
    fun _ hlow hhigh => m.read_writeWord_ne w hlow hhigh⟩

/-- The copy of at most 65536 bytes (R52) puts byte `i` at `base +16 i`: a cell shows the byte whose number is its distance
from the base, and what it held where there is none. -/
theorem Memory.read_writeBytes (m : Memory) (base k : Addr) (bs : List Byte) (h : bs.length ≤ 65536) :
    (m.writeBytes base bs).read k = bs[(k - base).toNat]?.getD (m.read k) := by
  induction bs generalizing m base with
  | nil => rfl
  | cons v bs ih =>
    rw [List.length_cons] at h
    rw [Memory.writeBytes, ih _ _ (by omega)]
    by_cases hk : k = base
    · have hlast : (k - (base + 1)).toNat = 65535 := by bv_omega
      rw [hlast, List.getElem?_eq_none (by omega), hk, BitVec.sub_self]
      exact Memory.read_write_self _ _ _
    · have hnext : (k - base).toNat = (k - (base + 1)).toNat + 1 := by bv_omega
      rw [hnext, List.getElem?_cons_succ, Memory.read_write_ne _ _ hk]

theorem loadProgram_of_too_large {base : Addr} {prog : List Byte} (s : State) (h : base.toNat + prog.length > 65536) :
    loadProgram base prog s = .error (.programTooLarge base prog.length) := if_pos h

theorem loadProgram_of_fits {base : Addr} {prog : List Byte} (s : State) (h : base.toNat + prog.length ≤ 65536) :
    loadProgram base prog s = .ok { s with mem := s.mem.writeBytes base prog } := if_neg (by omega)

/-- Settles O15: a program that fits is copied, and a cell's distance from the base says which byte it shows. -/
theorem loadProgramCopiesOrRefuses : Obligations.LoadProgramCopiesOrRefuses := by
  intro base prog s
  refine ⟨loadProgram_of_too_large s, fun hfit => ⟨_, loadProgram_of_fits s hfit, rfl, fun i v hi => ?_, fun k hk => ?_⟩⟩
  all_goals refine (s.mem.read_writeBytes base _ prog (by omega)).trans ?_
  · have hlt : i < prog.length := (List.getElem?_eq_some_iff.mp hi).1
    have hdist : (base + BitVec.ofNat 16 i - base).toNat = i := by bv_omega
    rw [hdist, hi]; rfl
  · have hdist : prog.length ≤ (k - base).toNat := by bv_omega
    rw [List.getElem?_eq_none hdist]; rfl

/-- Memory after the stores of a list, in order. -/
def Memory.storeAll (m : Memory) (cs : List (Addr × Byte)) : Memory := cs.foldl (fun m c => m.write c.1 c.2) m

theorem Memory.read_storeAll_of_ne {cs : List (Addr × Byte)} (m : Memory) {k : Addr} (h : ∀ c ∈ cs, k ≠ c.1) :
    (m.storeAll cs).read k = m.read k := by
  induction cs generalizing m with
  | nil => rfl
  | cons c cs ih =>
    obtain ⟨hc, hcs⟩ := List.forall_mem_cons.mp h
    exact (ih (m.write c.1 c.2) hcs).trans (Memory.read_write_ne _ _ hc)

/-- Stores at different addresses all read back. -/
theorem Memory.read_storeAll_of_mem {cs : List (Addr × Byte)} (m : Memory) (hd : cs.Pairwise fun c d => c.1 ≠ d.1)
    {c : Addr × Byte} (h : c ∈ cs) : (m.storeAll cs).read c.1 = c.2 := by
  induction cs generalizing m with
  | nil => cases h
  | cons d cs ih =>
    obtain ⟨hne, hd⟩ := List.pairwise_cons.mp hd
    rcases List.mem_cons.mp h with rfl | h
    · exact (Memory.read_storeAll_of_ne (m.write c.1 c.2) hne).trans (Memory.read_write_self _ _ _)
    · exact ih _ hd h

theorem branchIf_mem (cond : Bool) (b1 : Byte) (s : State) : ∃ t, branchIf cond b1 s = .next t ∧ t.mem = s.mem := by
  refine ⟨_, rfl, ?_⟩
  split <;> rfl

/-- Every instruction leaves memory as its stores make it. -/
theorem exec_mem (i : Instr) (s : State) : ∃ t, exec i s = .next t ∧ t.mem = s.mem.storeAll (stores i s) := by
  cases i
  case andImm | andZp | andZpX | andAbs | andAbsX | andAbsY | andIndX | andIndY | oraImm | oraZp | oraZpX | oraAbs
      | oraAbsX | oraAbsY | oraIndX | oraIndY | eorImm | eorZp | eorZpX | eorAbs | eorAbsX | eorAbsY | eorIndX
      | eorIndY =>
    exact ⟨_, rfl, State.load_mem _ _ _⟩
  case bpl | bmi | bvc | bvs | bcc | bcs | bne | beq => exact branchIf_mem _ _ _
  case rorZp | rorZpX | rorAbs | rorAbsX =>
    refine ⟨_, rfl, congrArg (fun v => s.mem.write _ (_ ||| v)) ?_⟩
    cases s.p.c <;> rfl
  all_goals exact ⟨_, rfl, rfl⟩

/-- An instruction stores each byte at an address of its own: JSR's two lie one below the other on the stack (R197). -/
theorem stores_pairwise_ne (i : Instr) (s : State) : (stores i s).Pairwise fun c d => c.1 ≠ d.1 := by
  cases i
  case jsr w =>
    have hne : stackAddr s.sp ≠ stackAddr (s.sp - 1) := fun h => by
      have := stackAddr_inj.mp h
      bv_omega
    exact List.pairwise_pair.mpr hne
  case staZp | staZpX | staAbs | staAbsX | staAbsY | staIndX | staIndY | stxZp | stxZpY | stxAbs | styZp | styZpX
      | styAbs | incZp | incZpX | incAbs | incAbsX | decZp | decZpX | decAbs | decAbsX | aslZp | aslZpX | aslAbs
      | aslAbsX | lsrZp | lsrZpX | lsrAbs | lsrAbsX | rolZp | rolZpX | rolAbs | rolAbsX | rorZp | rorZpX | rorAbs
      | rorAbsX | pha =>
    exact List.pairwise_singleton _ _
  all_goals exact List.Pairwise.nil

/-- What an instruction stored reads back. -/
theorem exec_next_read_of_stored {i : Instr} {s t : State} (h : exec i s = .next t) {c : Addr × Byte}
    (hc : c ∈ stores i s) : t.read c.1 = c.2 := by
  obtain ⟨u, hu, hm⟩ := exec_mem i s
  rw [h] at hu
  cases hu
  rw [State.read_eq, hm]
  exact Memory.read_storeAll_of_mem _ (stores_pairwise_ne i s) hc

@[simp] theorem hostTurn_pc (s : State) : (hostTurn s).pc = s.pc := by rw [hostTurn_eq]

@[simp] theorem hostTurn_cfg (s : State) : (hostTurn s).cfg = s.cfg := by rw [hostTurn_eq]

/-- A step that the host lets through is the CPU's stages after the host's turn. -/
theorem step_of_running_of_hostTurn {s : State} (h : s.run = .running) (hu : (hostTurn s).run = .running) :
    step s = cpuStep (hostTurn s) := by
  rcases fullStep_cases s with ⟨-, hne⟩ | ⟨hf, -⟩
  · exact absurd hu hne
  · exact (step_of_running h).trans hf

theorem cpuStep_of_absent {s : State} (h : lookup s.cfg.profile (s.read s.pc) = none) :
    cpuStep s = .next { s with pc := s.pc + 1, run := .faulted (.unrecognizedOpcode (s.read s.pc)) } := by
  rcases cpuStep_cases s with ⟨-, hs⟩ | ⟨r, hr, -⟩
  · exact hs
  · rw [h] at hr; cases hr

theorem cpuStep_of_row {s : State} {r : OpCode} (h : lookup s.cfg.profile (s.read s.pc) = some r) :
    cpuStep s = exec (r.instr (s.read (s.pc + 1)) (s.read (s.pc + 2))) { s with pc := s.pc + 1 } := by
  rcases cpuStep_cases s with ⟨hn, -⟩ | ⟨q, hq, hs⟩
  · rw [h] at hn; cases hn
  · rw [h] at hq
    cases hq
    rw [hs, BitVec.add_assoc]
    rfl

/-- Settles O56: a stored byte reads back and the host's turn leaves it, so the next step looks it up. -/
theorem fetchSeesTheStore : Obligations.FetchSeesTheStore := by
  intro i s t h hrun
  have hread : ∀ c ∈ stores i s, t.cfg.host = .none ∨ c.1 ∉ t.cfg.hostWrites → (hostTurn t).read c.1 = c.2 :=
    fun c hc hhost => (hostTurn_read hhost).trans (exec_next_read_of_stored h hc)
  refine ⟨hread, fun v hv hhost hu => ?_⟩
  have hop : (hostTurn t).read t.pc = v := hread _ hv hhost
  rw [step_of_running_of_hostTurn hrun hu]
  refine ⟨fun hl => ?_, fun r hl => ?_⟩
  · simpa [hop] using cpuStep_of_absent (s := hostTurn t) (by simpa [hop] using hl)
  · simpa [hop] using cpuStep_of_row (s := hostTurn t) (by simpa [hop] using hl)

end Sys2Proof.Machine
end

section
/-!
SUPPORT. The opcode table, the decoder and the encoder: a byte has at most one row (R84), decoding reads one row and its
operand bytes (R85), and every row encodes its instructions by the row's code and those operand bytes (R81 to R83).
-/

namespace Sys2Proof

/-- Every instruction is built by a row of the table: the family of `Sys2Proof/Laws/PerInstr.lean`, put together. -/
theorem tableRow (i : Instr) : Laws.TableRow.Statement i := by
  open Laws.TableRow in
  exact i.casesOn
    ldaImm ldaZp ldaZpX ldaAbs ldaAbsX ldaAbsY ldaIndX ldaIndY ldxImm ldxZp ldxZpY ldxAbs ldxAbsY ldyImm ldyZp ldyZpX
    ldyAbs ldyAbsX staZp staZpX staAbs staAbsX staAbsY staIndX staIndY stxZp stxZpY stxAbs styZp styZpX styAbs adcImm
    adcZp adcZpX adcAbs adcAbsX adcAbsY adcIndX adcIndY sbcImm sbcZp sbcZpX sbcAbs sbcAbsX sbcAbsY sbcIndX sbcIndY inx
    iny dex dey incZp incZpX incAbs incAbsX decZp decZpX decAbs decAbsX cmpImm cmpZp cmpZpX cmpAbs cmpAbsX cmpAbsY
    cmpIndX cmpIndY cpxImm cpxZp cpxAbs cpyImm cpyZp cpyAbs andImm andZp andZpX andAbs andAbsX andAbsY andIndX andIndY
    oraImm oraZp oraZpX oraAbs oraAbsX oraAbsY oraIndX oraIndY eorImm eorZp eorZpX eorAbs eorAbsX eorAbsY eorIndX
    eorIndY bitZp bitAbs aslZp aslZpX aslAbs aslAbsX aslA lsrZp lsrZpX lsrAbs lsrAbsX lsrA rolZp rolZpX rolAbs rolAbsX
    rolA rorZp rorZpX rorAbs rorAbsX rorA brk bpl bmi bvc bvs bcc bcs bne beq jmpAbs jmpInd jsr rts pha pla txs tsx
    tax tay txa tya clc sec clv nop

/-- A row's code, its operand bytes and anything after them decode to the row's instruction (R85). -/
theorem decode_row {p : Profile} {r : OpCode} (h : lookup p r.code = some r) (b1 b2 : Byte) (rest : List Byte) :
    decode p (r.code :: ([b1, b2].take r.operandLength ++ rest)) = .ok (r.instr b1 b2, rest) := by
  obtain ⟨code, mnemonic, cycles, mode, profile, format⟩ := r
  cases format <;> simp [decode, h, OpCode.instr, OpCode.operandLength, OpCode.length]

/-- Bytes that decode are the code and the operand bytes of a row, and the bytes left over (R85). -/
theorem exists_row_of_decode {p : Profile} {bytes rest : List Byte} {i : Instr} (h : decode p bytes = .ok (i, rest)) :
    ∃ r b1 b2, lookup p r.code = some r ∧ r.instr b1 b2 = i ∧
      bytes = r.code :: ([b1, b2].take r.operandLength ++ rest) := by
  cases bytes with
  | nil => cases h
  | cons code tail =>
    cases hl : lookup p code with
    | none => rw [decode, hl] at h; cases h
    | some r =>
      rw [decode, hl] at h
      obtain rfl := lookup_code hl
      obtain ⟨code, mnemonic, cycles, mode, profile, format⟩ := r
      cases format with
      | f1 j =>
        cases h
        exact ⟨_, 0, 0, hl, rfl, rfl⟩
      | f2 build =>
        rcases tail with _ | ⟨b1, tail⟩ <;> cases h
        exact ⟨_, b1, 0, hl, rfl, rfl⟩
      | f3 build =>
        rcases tail with _ | ⟨b1, _ | ⟨b2, tail⟩⟩ <;> cases h
        exact ⟨_, b1, b2, hl, rfl, rfl⟩

/-- The operand bytes of a format, read off the word `{b2, b1}` in F3 as the encoder does (R81 to R83). -/
def Format.operandBytes (b1 b2 : Byte) : Format → List Byte
  | .f1 _ => []
  | .f2 _ => [b1]
  | .f3 _ => [loByte (pair b2 b1), hiByte (pair b2 b1)]

theorem OpCode.operandBytes_format (r : OpCode) (b1 b2 : Byte) :
    r.format.operandBytes b1 b2 = [b1, b2].take r.operandLength := by
  unfold OpCode.operandLength OpCode.length
  cases r.format <;> simp [Format.operandBytes]

/-- The encoder and the table agree, row by row: a row's instruction is encoded by the row's code and operand bytes. -/
theorem encode_instr {r : OpCode} (h : r ∈ opcodeTable) (b1 b2 : Byte) :
    encode (r.instr b1 b2) = r.code :: [b1, b2].take r.operandLength := by
  have rows : opcodeTable.map (fun q => encode (q.instr b1 b2)) =
      opcodeTable.map fun q => q.code :: q.format.operandBytes b1 b2 := rfl
  rw [List.map_inj_left.mp rows r h, r.operandBytes_format]

/-- Settles O7: the instruction's row is what its code looks up, and decoding reads that row's operand bytes. -/
theorem decodeOfEncodeIsTheInstruction : Obligations.DecodeOfEncodeIsTheInstruction := by
  intro p i rest hw
  obtain ⟨r, b1, b2, hl, -, -, -, hi, he⟩ := tableRow i
  rw [he, ← hi]
  exact decode_row (hl p hw) b1 b2 rest

/-- Settles O8: what was decoded is the instruction of a row that the profile has, so its encoding is the row's. -/
theorem encodeOfDecodeIsTheBytes : Obligations.EncodeOfDecodeIsTheBytes := by
  intro p bytes i rest h
  obtain ⟨r, b1, b2, hl, rfl, rfl⟩ := exists_row_of_decode h
  have hr := lookup_mem hl
  refine ⟨?_, by rw [encode_instr hr, List.cons_append]⟩
  rw [WellFormed, profile_instr hr, lookup_profile hl]

/-- The codes of the table are pairwise distinct (R84). -/
theorem codes_toNat_nodup : (opcodeTable.map (·.code.toNat)).Nodup := by decide +kernel

theorem codes_nodup : (opcodeTable.map (·.code)).Nodup :=
  List.pairwise_map.mpr ((List.pairwise_map.mp codes_toNat_nodup).imp fun hne h => hne (congrArg BitVec.toNat h))

/-- A row that the profile has is what its code looks up: no row before it has its code (R84). -/
theorem lookup_of_mem {p : Profile} {r : OpCode} (h : r ∈ opcodeTable) (hp : p.includes r.profile = true) :
    lookup p r.code = some r := by
  obtain ⟨before, after, happ⟩ := List.append_of_mem h
  have hd := List.pairwise_map.mp codes_nodup
  rw [happ, List.pairwise_append] at hd
  obtain ⟨-, -, hbefore⟩ := hd
  refine List.find?_eq_some_iff_append.mpr ⟨by simp only [beq_self_eq_true, hp, Bool.and_self], before, after, happ, ?_⟩
  intro q hq
  have hne : (q.code == r.code) = false := beq_false_of_ne (hbefore q hq r List.mem_cons_self)
  simp only [hne, Bool.false_and, Bool.not_false]

/-- Settles O2: the row found is a row of the byte that the profile has, and there is no other. -/
theorem lookupFindsExactlyTheRowOfTheByte : Obligations.LookupFindsExactlyTheRowOfTheByte := by
  intro p c r
  refine ⟨fun h => ⟨lookup_mem h, lookup_code h, lookup_profile h⟩, ?_⟩
  rintro ⟨hr, rfl, hp⟩
  exact lookup_of_mem hr hp

/-- Settles O1, by the distinctness of the codes and by counting the rows. -/
theorem opcodeBytesAreUnique : Obligations.OpcodeBytesAreUnique := by
  refine ⟨codes_nodup, ?_, ?_, ?_⟩ <;> rfl

/-- The bytes that look up a row are as many as the rows that the profile has: each row has its own byte. -/
theorem length_filter_lookup_isSome (p : Profile) :
    ((List.range 256).filter fun k => (lookup p (BitVec.ofNat 8 k)).isSome).length =
      (opcodeTable.filter fun r => p.includes r.profile).length := by
  have hcodes : ((opcodeTable.filter fun r => p.includes r.profile).map (·.code.toNat)).Nodup :=
    codes_toNat_nodup.sublist (List.filter_sublist.map _)
  rw [← List.length_map (fun r : OpCode => r.code.toNat)]
  refine ((List.perm_ext_iff_of_nodup (List.nodup_range.filter _) hcodes).mpr fun k => ?_).length_eq
  simp only [List.mem_filter, List.mem_map, List.mem_range, Option.isSome_iff_exists]
  constructor
  · rintro ⟨hk, r, hr⟩
    refine ⟨r, ⟨lookup_mem hr, lookup_profile hr⟩, ?_⟩
    rw [lookup_code hr, BitVec.toNat_ofNat, Nat.mod_eq_of_lt hk]
  · rintro ⟨r, ⟨hr, hp⟩, rfl⟩
    exact ⟨r.code.isLt, r, by rw [BitVec.ofNat_toNat, BitVec.setWidth_eq]; exact lookup_of_mem hr hp⟩

/-- The illegal bytes are the rest of the 256 (R112). -/
theorem length_filter_lookup_isNone (p : Profile) :
    ((List.range 256).filter fun k => (lookup p (BitVec.ofNat 8 k)).isNone).length =
      256 - (opcodeTable.filter fun r => p.includes r.profile).length := by
  have hsplit := List.length_eq_countP_add_countP (l := List.range 256)
    fun k => (lookup p (BitVec.ofNat 8 k)).isSome
  simp only [List.countP_eq_length_filter, length_filter_lookup_isSome, List.length_range, Bool.not_eq_true,
    Option.isSome_eq_false_iff, Bool.decide_eq_true] at hsplit
  omega

theorem decode_of_lookup_isNone {p : Profile} {c : Byte} (h : (lookup p c).isNone) (rest : List Byte) :
    decode p (c :: rest) = .error (.unrecognizedOpcode c) := by
  rw [decode, Option.isNone_iff_eq_none.mp h]

/-- Settles O3: 73 and 144 of the 256 bytes have a row. -/
theorem illegalBytesAreCounted : Obligations.IllegalBytesAreCounted := by
  have hcore : (opcodeTable.filter fun r => Profile.core.includes r.profile).length = 73 := rfl
  have hextended : (opcodeTable.filter fun r => Profile.extended.includes r.profile).length = 144 := by
    have hall : opcodeTable.filter (fun r => Profile.extended.includes r.profile) = opcodeTable :=
      List.filter_eq_self.mpr fun r _ => Profile.extended_includes r.profile
    rw [hall]
    rfl
  exact ⟨by rw [length_filter_lookup_isNone, hcore], by rw [length_filter_lookup_isNone, hextended],
    fun _ _ rest h => decode_of_lookup_isNone h rest⟩

/-- A byte without a row under `EXTENDED` has none in any profile (R7). -/
theorem lookup_isNone_of_extended {c : Byte} (h : (lookup .extended c).isNone) (p : Profile) : (lookup p c).isNone := by
  simp only [lookup, Option.isNone_iff_eq_none, List.find?_eq_none] at h ⊢
  simp_all [Profile.extended_includes]

/-- Settles O4: the seven bytes have no row under `EXTENDED`, so none at all. -/
theorem excludedInstructionsHaveNoRow : Obligations.ExcludedInstructionsHaveNoRow := by
  have absent : ∀ c ∈ [(0x78 : Byte), 0x58, 0xF8, 0xD8, 0x08, 0x28, 0x40], (lookup .extended c).isNone := by decide
  exact fun p c hc => lookup_isNone_of_extended (absent c hc) p

theorem OpCode.operandLength_add_one (r : OpCode) : r.operandLength + 1 = r.length := by
  unfold OpCode.operandLength OpCode.length
  cases r.format <;> rfl

/-- Settles O5, over the rows of the table. -/
theorem rowLengthFollowsTheMode : Obligations.RowLengthFollowsTheMode := by
  refine fun r hr => ⟨r.operandLength_add_one, ?_⟩
  revert r
  decide +kernel

/-- Settles O6: each sequence is a row's code and operand bytes, and what is left. -/
theorem sourceWordsDecode : Obligations.SourceWordsDecode := by
  unfold Obligations.SourceWordsDecode
  and_intros <;> rfl

end Sys2Proof
end

section
/-!
SUPPORT. Operands: the resolver reads at the operand pointer the operand whose bytes stand there (R89 to R99).
-/

namespace Sys2Proof.Machine

theorem resolve_of_operandAt {mode : AddressingMode} {s : State} {o : Operand} (h : operandAt mode s = .ok o) :
    resolve mode s = .ok (o.ea s) := by
  rw [resolve, h]; rfl

/-- Outside Immediate the operand's byte is read at its effective address (R90). -/
theorem Operand.value_eq_read {o : Operand} (s : State) (h : o.mode ≠ .immediate) : o.value s = s.read (o.ea s) := by
  cases o
  case immediate => exact absurd rfl h
  all_goals rfl

/-- An operand whose bytes stand at the operand pointer, ascending, is the one read there (R82, R83, R89). -/
theorem operandAt_of_bytes {o : Operand} {s : State}
    (h : ∀ i v, o.bytes[i]? = some v → s.read (s.pc + BitVec.ofNat 16 i) = v) : operandAt o.mode s = .ok o := by
  have byte : ∀ b, o.bytes[0]? = some b → s.read s.pc = b := fun b hb => by simpa using h 0 b hb
  have word : ∀ w, o.bytes = [loByte w, hiByte w] → s.mem.readWord s.pc = w := fun w hw => by
    have low : s.mem.read s.pc = loByte w := byte _ (by rw [hw]; rfl)
    have high : s.mem.read (s.pc + 1) = hiByte w := h 1 _ (by rw [hw]; rfl)
    rw [Memory.readWord, low, high, pair_hiByte_loByte]
  cases o
  case absolute w | absoluteX w | absoluteY w => simp only [operandAt, Operand.mode, word w rfl]
  all_goals simp only [operandAt, Operand.mode, byte _ rfl]

/-- Settles O18: the operand read at the pointer is the decoded one, and in Immediate its byte is the one at `pc`. -/
theorem resolverAgreesWithTheDecodedOperand : Obligations.ResolverAgreesWithTheDecodedOperand := by
  intro o s h
  have hat := operandAt_of_bytes h
  refine ⟨hat, resolve_of_operandAt hat, ?_, fun hm => ?_⟩
  · cases o
    case immediate b =>
      have hb : s.read s.pc = b := by simpa using h 0 b rfl
      exact hb
    all_goals rfl
  · cases o
    case immediate => rfl
    all_goals cases hm

/-- Settles O17, mode by mode. -/
theorem effectiveAddressOfEachMode : Obligations.EffectiveAddressOfEachMode :=
  fun s _ b2 => ⟨rfl, rfl, rfl, rfl, rfl, rfl, rfl, rfl, fun _ _ h => Operand.value_eq_read s h,
    fun b => ⟨pair_toNat b2 b, zext16_toNat b⟩⟩

/-- Settles O19: NoneAddressing raises, and each other mode reads an operand, which has an address. -/
theorem resolverRejectsNoneAddressing : Obligations.ResolverRejectsNoneAddressing := by
  refine fun s => ⟨rfl, fun mode h => ?_⟩
  cases mode
  case noneAddressing => exact absurd rfl h
  all_goals exact ⟨_, rfl⟩

end Sys2Proof.Machine
end

section
/-!
SUPPORT. Tables of rows that one handler runs: what `Runs` says of a table follows from the rows' bytes, profile and handler,
read off the table, and from the handler's effect, said once (R240).
-/

namespace Sys2Proof.Machine

/-- Rows that run `handler`, whose effect leaves `pc` to the loop's advance by `operand_length` (R240). -/
theorem runs_of_handler {p : Profile} {rows : List (Byte × Instr × Operand)} {handler effect : Operand → State → State}
    (hbytes : rows.map (fun q => encode q.2.1) = rows.map fun q => q.1 :: q.2.2.bytes)
    (hprofile : rows.map (fun q => q.2.1.profile) = rows.map fun _ => p)
    (hexec : rows.map (fun q => exec q.2.1) = rows.map fun q => runOperand handler q.2.2)
    (heffect : ∀ o s, handler o s = effect o s) (hpc : ∀ o s, (effect o s).pc = s.pc) : Runs p rows effect := by
  intro row hrow
  refine ⟨List.map_inj_left.mp hbytes row hrow, List.map_inj_left.mp hprofile row hrow, fun s => ?_⟩
  have hrun : exec row.2.1 = runOperand handler row.2.2 := List.map_inj_left.mp hexec row hrow
  rw [hrun, runOperand, heffect, State.advance_eq, hpc]
  rfl

/-- Loading a register writes it, Zero and Negative, and nothing else (R123). -/
theorem State.load_a (s : State) (v : Byte) : s.load .a v = { s with a := v, p := withZN s.p v } := rfl

theorem State.load_x (s : State) (v : Byte) : s.load .x v = { s with x := v, p := withZN s.p v } := rfl

theorem State.load_y (s : State) (v : Byte) : s.load .y v = { s with y := v, p := withZN s.p v } := rfl

/-- Settles O21: the eight rows run `handleLda`, which loads `A` with the operand's byte. -/
theorem ldaLoadsA : Obligations.LdaLoadsA := fun _ _ =>
  runs_of_handler (handler := handleLda) rfl rfl rfl (fun o s => State.load_a s (o.value s)) fun _ _ => rfl

/-- Settles O22: the rows run `handleLdx` and `handleLdy`, which load `X` and `Y` with the operand's byte. -/
theorem ldxAndLdyLoadTheirRegister : Obligations.LdxAndLdyLoadTheirRegister := fun _ _ =>
  ⟨runs_of_handler (handler := handleLdx) rfl rfl rfl (fun o s => State.load_x s (o.value s)) fun _ _ => rfl,
    runs_of_handler (handler := handleLdy) rfl rfl rfl (fun o s => State.load_y s (o.value s)) fun _ _ => rfl⟩

end Sys2Proof.Machine
end

section
/-!
SUPPORT. The store handlers: what each leaves, said once; the flags and the registers are the ones on entry (R130 to R132).
-/

namespace Sys2Proof.Machine

theorem handleSta_eq (o : Operand) (s : State) : handleSta o s = { s with mem := s.mem.write (o.ea s) s.a } := rfl

theorem handleStx_eq (o : Operand) (s : State) : handleStx o s = { s with mem := s.mem.write (o.ea s) s.x } := rfl

theorem handleSty_eq (o : Operand) (s : State) : handleSty o s = { s with mem := s.mem.write (o.ea s) s.y } := rfl

/-- Settles O23: the rows run `handleSta`, `handleStx` and `handleSty`, which write their register at the operand's address. -/
theorem storesWriteTheirRegister : Obligations.StoresWriteTheirRegister := fun _ _ =>
  ⟨runs_of_handler rfl rfl rfl handleSta_eq fun _ _ => rfl,
    runs_of_handler rfl rfl rfl handleStx_eq fun _ _ => rfl,
    runs_of_handler rfl rfl rfl handleSty_eq fun _ _ => rfl⟩

end Sys2Proof.Machine
end

section
/-!
SUPPORT. The memory frame of an instruction: bytes at addresses it does not store to read as before (R51, R60).
-/

namespace Sys2Proof.Machine

theorem exec_next_mem {i : Instr} {s t : State} (h : exec i s = .next t) : t.mem = s.mem.storeAll (stores i s) := by
  obtain ⟨u, hu, hm⟩ := exec_mem i s
  rw [h] at hu
  cases hu
  exact hm

theorem exec_next_read_of_not_stored {i : Instr} {s t : State} (h : exec i s = .next t) {k : Addr}
    (hk : ∀ c ∈ stores i s, k ≠ c.1) : t.read k = s.read k := by
  rw [State.read_eq, exec_next_mem h]
  exact Memory.read_storeAll_of_ne _ hk

/-- Settles O48: memory after an instruction is memory with its stores made, at addresses that differ. -/
theorem memoryChangesOnlyWhereAnInstructionStores : Obligations.MemoryChangesOnlyWhereAnInstructionStores :=
  fun _ _ _ h => ⟨fun _ hc => exec_next_read_of_stored h hc, fun _ hk => exec_next_read_of_not_stored h hk⟩

end Sys2Proof.Machine
end

section
/-!
SUPPORT. The add path that ADC and SBC share, as integer arithmetic (R140, R141, R153): its sum, its overflow test read as a
signed range, and the subtraction it makes of an inverted operand.
-/

namespace Sys2Proof.Machine

theorem carrySum_eq (a m : Byte) (c : Bool) : carrySum a m c = a.toNat + m.toNat + (if c then 1 else 0) := by
  cases c <;> rfl

theorem signChange_eq (a m r : Byte) : signChange a m r = decide ((m ^^^ r) &&& (r ^^^ a) &&& 0x80 ≠ 0) := by
  rw [signChange, bne, decide_not]
  rfl

/-- The add path writes `A`, Carry, Overflow, Zero and Negative, and nothing else (R140). -/
theorem State.addWithCarry_eq (s : State) (m : Byte) :
    s.addWithCarry m =
      let sum := s.a.toNat + m.toNat + (if s.p.c then 1 else 0)
      let r := BitVec.ofNat 8 sum
      { s with a := r, p := { withZN s.p r with c := decide (sum > 255),
                                                v := decide ((m ^^^ r) &&& (r ^^^ s.a) &&& 0x80 ≠ 0) } } := by
  rw [State.addWithCarry, carrySum_eq, signChange_eq]
  rfl

/-- Settles O24: the rows run `handleAdc`, the add path on the operand's byte. -/
theorem adcAddsWithCarry : Obligations.AdcAddsWithCarry := fun _ _ =>
  runs_of_handler (handler := handleAdc) rfl rfl rfl (fun o s => State.addWithCarry_eq s (o.value s)) fun _ _ => rfl

/-- Settles O25: the rows run `handleSbc`, the add path on the inverted byte. -/
theorem sbcSubtractsWithBorrow : Obligations.SbcSubtractsWithBorrow := fun _ _ =>
  runs_of_handler (handler := handleSbc) rfl rfl rfl (fun o s => State.addWithCarry_eq s (~~~(o.value s)))
    fun _ _ => rfl

theorem State.addWithCarry_a (s : State) (m : Byte) :
    (s.addWithCarry m).a = BitVec.ofNat 8 (carrySum s.a m s.p.c) := rfl

theorem State.addWithCarry_carry (s : State) (m : Byte) :
    (s.addWithCarry m).p.c = decide (carrySum s.a m s.p.c > 255) := rfl

theorem State.addWithCarry_overflow (s : State) (m : Byte) :
    (s.addWithCarry m).p.v = signChange s.a m (BitVec.ofNat 8 (carrySum s.a m s.p.c)) := rfl

/-- A row of ADC runs the add path on the operand's byte. -/
theorem exec_adcRow {b1 : Byte} {w : Addr} {row : Byte × Instr × Operand} (h : row ∈ adcRows b1 w) (s : State) :
    exec row.2.1 s = .next { s.addWithCarry (row.2.2.value s) with pc := s.pc + row.2.2.size } := by
  obtain ⟨-, -, hexec⟩ := adcAddsWithCarry b1 w row h
  rw [hexec, State.addWithCarry_eq]

/-- A row of SBC runs the add path on the operand's byte inverted. -/
theorem exec_sbcRow {b1 : Byte} {w : Addr} {row : Byte × Instr × Operand} (h : row ∈ sbcRows b1 w) (s : State) :
    exec row.2.1 s = .next { s.addWithCarry (~~~(row.2.2.value s)) with pc := s.pc + row.2.2.size } := by
  obtain ⟨-, -, hexec⟩ := sbcSubtractsWithBorrow b1 w row h
  rw [hexec, State.addWithCarry_eq]

/-- Overflow compares sign bits: the result's differs from the operand's and from the accumulator's. -/
theorem signChange_iff_msb (a m r : Byte) : signChange a m r = true ↔ m.msb ≠ r.msb ∧ r.msb ≠ a.msb := by
  have hbit : (0x80 : Byte) = BitVec.twoPow 8 7 := rfl
  have hmsb : ((m ^^^ r) &&& (r ^^^ a)).getLsbD 7 = ((m.msb ^^ r.msb) && (r.msb ^^ a.msb)) := by
    simp only [BitVec.getLsbD_and, BitVec.getLsbD_xor, BitVec.msb_eq_getLsbD_last, Nat.add_one_sub_one]
  have hmask : ∀ b : Bool, (if b then BitVec.twoPow 8 7 else 0#8) ≠ 0 ↔ b = true := by decide
  rw [signChange_eq, hbit, BitVec.and_twoPow, hmsb, decide_eq_true_eq, hmask]
  simp only [Bool.and_eq_true, bne_iff_ne]

theorem carrySum_eq_carryInt (s : State) (m : Byte) :
    (carrySum s.a m s.p.c : Int) = s.a.toNat + m.toNat + carryInt s := by
  rw [carrySum_eq, carryInt]
  split <;> omega

theorem carryInt_eq_zero_or_one (s : State) : carryInt s = 0 ∨ carryInt s = 1 := by
  rw [carryInt]
  split
  · exact .inr rfl
  · exact .inl rfl

/-- Overflow says that the signed sum does not fit eight bits (R153). -/
theorem State.addWithCarry_overflow_iff (s : State) (m : Byte) :
    (s.addWithCarry m).p.v = true ↔
      s.a.toInt + m.toInt + carryInt s < -128 ∨ 127 < s.a.toInt + m.toInt + carryInt s := by
  have hsum := carrySum_eq_carryInt s m
  have hcarry := carryInt_eq_zero_or_one s
  have ha := s.a.isLt
  have hm := m.isLt
  simp only [State.addWithCarry_overflow, signChange_iff_msb, BitVec.msb_eq_decide, BitVec.toInt_eq_toNat_cond,
    BitVec.toNat_ofNat, ne_eq, decide_eq_decide]
  omega

/-- The add path adds: a signed and an unsigned sum at once (R153). -/
theorem arithmeticLaw_addWithCarry (s : State) (m : Byte) (pc : Addr) :
    ArithmeticLaw false s { s.addWithCarry m with pc := pc } m := by
  have hsum := carrySum_eq_carryInt s m
  simp only [ArithmeticLaw, Bool.false_eq_true, if_false]
  refine ⟨?_, ?_, s.addWithCarry_overflow_iff m⟩
  · simp only [State.addWithCarry_a, BitVec.toNat_ofNat]
    omega
  · simp only [State.addWithCarry_carry, decide_eq_true_eq]
    omega

theorem toInt_not_eq_sub (m : Byte) : (~~~m).toInt = -1 - m.toInt := by
  have hm := m.isLt
  simp only [BitVec.toInt_eq_toNat_cond, BitVec.toNat_not]
  omega

/-- Adding the inverted operand subtracts: `~m` is `255 - m` unsigned and `-1 - m` signed; its carry is no borrow. -/
theorem arithmeticLaw_sub_of_not {s t : State} {m : Byte} (h : ArithmeticLaw false s t (~~~m)) :
    ArithmeticLaw true s t m := by
  have hm := m.isLt
  simp only [ArithmeticLaw, toInt_not_eq_sub, BitVec.toNat_not, Bool.false_eq_true, if_true, if_false] at h ⊢
  obtain ⟨ha, hc, hv⟩ := h
  refine ⟨?_, ?_, ?_⟩
  · omega
  · rw [hc]; omega
  · rw [hv]; omega

/-- Settles O26: the rows run the add path, which adds, and subtracts when its operand is inverted. -/
theorem adcAndSbcObeyTheIntegerLaws : Obligations.AdcAndSbcObeyTheIntegerLaws := by
  refine fun b1 w s => ⟨fun row hrow => ?_, fun row hrow => ?_, fun b1' w' row hrow row' hrow' hvalue => ?_⟩
  · exact ⟨_, exec_adcRow hrow s, arithmeticLaw_addWithCarry s _ _⟩
  · exact ⟨_, exec_sbcRow hrow s, arithmeticLaw_sub_of_not (arithmeticLaw_addWithCarry s _ _)⟩
  · exact ⟨_, _, exec_adcRow hrow s, exec_sbcRow hrow' s, by rw [hvalue], by rw [hvalue]⟩

/-- No addressing mode reads a flag (R90 to R98). -/
theorem Operand.value_withFlags (o : Operand) (s : State) (p : Flags) : o.value { s with p := p } = o.value s := by
  cases o <;> rfl

/-- An instruction that runs the add path on a function of its operand's byte leaves DecimalMode and does not read it
(R142). -/
theorem addWithCarry_ignores_decimal {i : Instr} {o : Operand} (f : Byte → Byte)
    (he : ∀ u, exec i u = .next { u.addWithCarry (f (o.value u)) with pc := u.pc + o.size }) (s : State) (d : Bool) :
    ∃ t, exec i s = .next t ∧ t.p.d = s.p.d ∧
      exec i { s with p := { s.p with d := d } } = .next { t with p := { t.p with d := d } } := by
  refine ⟨_, he s, rfl, ?_⟩
  rw [he, Operand.value_withFlags]
  rfl

/-- Settles O27: both tables run the add path, which does not read DecimalMode. -/
theorem arithmeticIgnoresDecimalMode : Obligations.ArithmeticIgnoresDecimalMode := by
  intro b1 w s d row hrow
  rcases List.mem_append.mp hrow with hadc | hsbc
  · exact addWithCarry_ignores_decimal id (exec_adcRow hadc) s d
  · exact addWithCarry_ignores_decimal (~~~·) (exec_sbcRow hsbc) s d

end Sys2Proof.Machine
end

section
/-!
SUPPORT. Increments, decrements and compares: what their handlers leave, said once (R143 to R151).
-/

namespace Sys2Proof.Machine

@[simp] theorem State.advance_zero (s : State) : s.advance 0 = s := by
  simp only [State.advance_eq, BitVec.ofNat_eq_ofNat, BitVec.add_zero]
  rfl

/-- An implied row that runs `handler`, whose effect leaves `pc` at the next instruction (R240). -/
theorem runsImplied_of_handler {p : Profile} {code : Byte} {i : Instr} {handler effect : State → State}
    (hbytes : encode i = [code]) (hprofile : i.profile = p) (hexec : exec i = runImplied handler)
    (heffect : ∀ s, handler s = effect s) : RunsImplied p code i effect := by
  refine ⟨hbytes, hprofile, fun s => ?_⟩
  rw [hexec, runImplied, heffect, State.advance_zero]

/-- Settles O28: each row runs its handler, which loads its register with the register's byte stepped by one. -/
theorem registerIncrementsAndDecrements : Obligations.RegisterIncrementsAndDecrements :=
  ⟨runsImplied_of_handler (handler := handleInx) rfl rfl rfl (fun s => State.load_x s (s.x + 1)),
    runsImplied_of_handler (handler := handleIny) rfl rfl rfl (fun s => State.load_y s (s.y + 1)),
    runsImplied_of_handler (handler := handleDex) rfl rfl rfl (fun s => State.load_x s (s.x - 1)),
    runsImplied_of_handler (handler := handleDey) rfl rfl rfl (fun s => State.load_y s (s.y - 1))⟩

/-- A write back changes one byte, Zero and Negative (R147). -/
theorem State.modify_eq (s : State) (k : Addr) (v : Byte) :
    s.modify k v = { s with mem := s.mem.write k v, p := withZN s.p v } := rfl

/-- Settles O29: the rows run `handleInc` and `handleDec`, which write the stepped byte back where it was read. -/
theorem memoryIncrementsAndDecrements : Obligations.MemoryIncrementsAndDecrements := fun _ _ =>
  ⟨runs_of_handler (handler := handleInc) rfl rfl rfl
      (fun o s => State.modify_eq s (o.ea s) (s.read (o.ea s) + 1)) fun _ _ => rfl,
    runs_of_handler (handler := handleDec) rfl rfl rfl
      (fun o s => State.modify_eq s (o.ea s) (s.read (o.ea s) - 1)) fun _ _ => rfl⟩

/-- A compare writes Carry, Zero and Negative alone; the difference is zero just when the bytes are equal (R149). -/
theorem State.compare_eq (s : State) (r : Reg) (m : Byte) :
    s.compare r m = { s with p := { s.p with c := decide (m.toNat ≤ (s.reg r).toNat), z := decide (s.reg r = m),
                                             n := (s.reg r - m).getLsbD 7 } } := by
  have hz : decide (s.reg r - m = 0) = decide (s.reg r = m) := decide_eq_decide.mpr (by bv_omega)
  rw [← hz]
  rfl

/-- Settles O30: the rows run `handleCmp`, `handleCpx` and `handleCpy`, which compare a register with the operand's byte. -/
theorem comparesSetFlagsOnly : Obligations.ComparesSetFlagsOnly := fun _ _ =>
  ⟨runs_of_handler (handler := handleCmp) rfl rfl rfl (fun o s => State.compare_eq s .a (o.value s)) fun _ _ => rfl,
    runs_of_handler (handler := handleCpx) rfl rfl rfl (fun o s => State.compare_eq s .x (o.value s)) fun _ _ => rfl,
    runs_of_handler (handler := handleCpy) rfl rfl rfl (fun o s => State.compare_eq s .y (o.value s)) fun _ _ => rfl⟩

end Sys2Proof.Machine
end

section
/-!
SUPPORT. Logical instructions and BIT: the register that takes the result, and the flags BIT copies (R160 to R164).
-/

namespace Sys2Proof.Machine

/-- Settles O31: the rows run `handleAnd`, `handleOra` and `handleEor`, which load `LOGIC_DEST`, the only case split (R163). -/
theorem logicalResultsGoToLogicDest : Obligations.LogicalResultsGoToLogicDest := by
  intro b1 w put
  have hput : ∀ s r, s.load (logicReg s.cfg.logicDest) r = put s r := by
    intro s r
    dsimp only [put]
    cases s.cfg.logicDest with
    | x => exact State.load_x s r
    | a => exact State.load_a s r
  have hpc : ∀ s r, (put s r).pc = s.pc := fun s r => by rw [← hput, State.load_pc]
  exact ⟨runs_of_handler (handler := handleAnd) rfl rfl rfl (fun _ s => hput s _) fun _ s => hpc s _,
    runs_of_handler (handler := handleOra) rfl rfl rfl (fun _ s => hput s _) fun _ s => hpc s _,
    runs_of_handler (handler := handleEor) rfl rfl rfl (fun _ s => hput s _) fun _ s => hpc s _, rfl⟩

/-- BIT writes Zero, Negative and Overflow alone; Negative and Overflow are bits of the byte, not of the AND (R164). -/
theorem handleBit_eq (o : Operand) (s : State) :
    handleBit o s = { s with p := { s.p with z := decide (s.a &&& o.value s = 0), n := (o.value s).getLsbD 7,
                                             v := (o.value s).getLsbD 6 } } := rfl

/-- Settles O32: the two rows run `handleBit`, which sets three flags from `A` and the memory byte. -/
theorem bitTestsMemory : Obligations.BitTestsMemory := fun _ _ =>
  runs_of_handler (handler := handleBit) rfl rfl rfl handleBit_eq fun _ _ => rfl

end Sys2Proof.Machine
end

section
/-!
SUPPORT. Shifts and rotations by one: what a shift of a memory byte or of `A` leaves, said once, and the rotation written
with the constants of the statements (R170 to R178).
-/

namespace Sys2Proof.Machine

/-- A shift of a memory byte writes that byte, Carry, Zero and Negative alone (R170). -/
theorem State.shiftMem_eq (s : State) (f : ShiftFn) (k : Addr) :
    s.shiftMem f k = shiftedMem s k (f (s.read k) s.p.c).1 (f (s.read k) s.p.c).2 := rfl

/-- A shift of `A` writes `A`, Carry, Zero and Negative alone (R171). -/
theorem State.shiftA_eq (s : State) (f : ShiftFn) :
    s.shiftA f = shiftedA s (f s.a s.p.c).1 (f s.a s.p.c).2 := rfl

theorem rotateRight_eq (m : Byte) (c : Bool) :
    rotateRight m c = (m.getLsbD 0, m >>> 1 ||| (if c then 0x80 else 0x00)) := by
  cases c <;> rfl

/-- Settles O33: the rows run `handleAsl`, `handleLsr`, `handleAslA` and `handleLsrA`, one shift by `shiftLeft` or
`shiftRight`. -/
theorem shiftsByOne : Obligations.ShiftsByOne := fun _ _ =>
  ⟨runs_of_handler (handler := handleAsl) rfl rfl rfl (fun o s => State.shiftMem_eq s shiftLeft (o.ea s)) fun _ _ => rfl,
    runs_of_handler (handler := handleLsr) rfl rfl rfl (fun o s => State.shiftMem_eq s shiftRight (o.ea s)) fun _ _ => rfl,
    runsImplied_of_handler (handler := handleAslA) rfl rfl rfl (fun s => State.shiftA_eq s shiftLeft),
    runsImplied_of_handler (handler := handleLsrA) rfl rfl rfl (fun s => State.shiftA_eq s shiftRight)⟩

theorem handleRor_eq (o : Operand) (s : State) :
    handleRor o s = shiftedMem s (o.ea s) ((s.read (o.ea s)).getLsbD 0)
      (s.read (o.ea s) >>> 1 ||| (if s.p.c then 0x80 else 0x00)) := by
  rw [handleRor, State.shiftMem_eq, rotateRight_eq]

theorem handleRorA_eq (s : State) :
    handleRorA s = shiftedA s (s.a.getLsbD 0) (s.a >>> 1 ||| (if s.p.c then 0x80 else 0x00)) := by
  rw [handleRorA, State.shiftA_eq, rotateRight_eq]

/-- Settles O34: the rows run `handleRol`, `handleRor`, `handleRolA` and `handleRorA`; the byte that ROR's old Carry makes is
the one of two constants that Carry selects. -/
theorem rotatesThroughCarry : Obligations.RotatesThroughCarry := fun _ _ =>
  ⟨runs_of_handler (handler := handleRol) rfl rfl rfl (fun o s => State.shiftMem_eq s rotateLeft (o.ea s)) fun _ _ => rfl,
    runs_of_handler rfl rfl rfl handleRor_eq fun _ _ => rfl,
    runsImplied_of_handler (handler := handleRolA) rfl rfl rfl (fun s => State.shiftA_eq s rotateLeft),
    runsImplied_of_handler rfl rfl rfl handleRorA_eq⟩

end Sys2Proof.Machine
end

section
/-!
SUPPORT. A rotation through Carry turns the nine-bit ring of Carry and the byte by a fixed distance, so nine of them turn it
all the way round (R174 to R177).
-/

namespace Sys2Proof.Machine

/-- Carry and a byte as a ring of nine bits, Carry the topmost (R174: "a 9-bit rotation"). -/
def ring (q : Bool × Byte) : BitVec 9 := BitVec.cons q.1 q.2

theorem ring_getLsbD (q : Bool × Byte) (k : Nat) : (ring q).getLsbD k = if k = 8 then q.1 else q.2.getLsbD k :=
  BitVec.getLsbD_cons _ _ _

theorem eq_of_ring_getLsbD {q r : Bool × Byte} (h : ∀ k < 9, (ring r).getLsbD k = (ring q).getLsbD k) : r = q := by
  simp only [ring_getLsbD] at h
  refine Prod.ext ?_ (BitVec.eq_of_getLsbD_eq fun k hk => ?_)
  · simpa only [if_true] using h 8 (by decide)
  · simpa only [if_neg (Nat.ne_of_lt hk)] using h k (by omega)

/-- `r` is `q` turned: each bit of the ring has come from `d` places above it, counted round the ring. -/
def RingTurn (d : Nat) (q r : Bool × Byte) : Prop :=
  ∀ k < 9, (ring r).getLsbD k = (ring q).getLsbD ((k + d) % 9)

theorem RingTurn.refl (q : Bool × Byte) : RingTurn 0 q q := fun k hk => by rw [Nat.add_zero, Nat.mod_eq_of_lt hk]

theorem RingTurn.trans {d e : Nat} {q r u : Bool × Byte} (h : RingTurn d q r) (h' : RingTurn e r u) :
    RingTurn (e + d) q u := fun k hk => by
  rw [h' k hk, h _ (Nat.mod_lt _ (by decide)), Nat.mod_add_mod, Nat.add_assoc]

/-- Nine turns by any distance are whole turns of the ring. -/
theorem RingTurn.eq_of_nine {d : Nat} {q r : Bool × Byte} (h : RingTurn (9 * d) q r) : r = q :=
  eq_of_ring_getLsbD fun k hk => by rw [h k hk, Nat.add_mul_mod_self_left, Nat.mod_eq_of_lt hk]

/-- ROL moves every bit one place up, so it comes from eight places above, round the ring. -/
theorem ringTurn_rotateLeft (m : Byte) (c : Bool) : RingTurn 8 (c, m) (rotateLeft m c) := by
  intro k hk
  simp only [ring_getLsbD, rotateLeft, bit7, BitVec.getLsbD_or, BitVec.getLsbD_shiftLeft, flagByte_getLsbD]
  have hbit : k = 0 ∨ k = 8 ∨ (0 < k ∧ k < 8) := by omega
  rcases hbit with rfl | rfl | ⟨hpos, hlt⟩
  · simp
  · simp
  · have hfrom : (k + 8) % 9 = k - 1 := by omega
    have hne : k ≠ 0 ∧ k ≠ 8 ∧ k - 1 ≠ 8 ∧ ¬ k < 1 := by omega
    simp [hfrom, hne, hlt]

/-- ROR moves every bit one place down. -/
theorem ringTurn_rotateRight (m : Byte) (c : Bool) : RingTurn 1 (c, m) (rotateRight m c) := by
  intro k hk
  simp only [ring_getLsbD, rotateRight, bit0, BitVec.getLsbD_or, BitVec.getLsbD_ushiftRight, BitVec.getLsbD_shiftLeft,
    flagByte_getLsbD]
  have hbit : k = 8 ∨ k = 7 ∨ k < 7 := by omega
  rcases hbit with rfl | rfl | hlt
  · simp
  · simp
  · have hfrom : (k + 1) % 9 = 1 + k := by omega
    have hne : k ≠ 8 ∧ 1 + k ≠ 8 := by omega
    simp [hfrom, hne, hlt]

/-- An instruction that answers a next state runs any number of times, and what holds of each execution and composes holds
from the first state to the last. -/
theorem execTimes_rel {i : Instr} {R : Nat → State → State → Prop} (hzero : ∀ s, R 0 s s)
    (hsucc : ∀ n s, ∃ u, exec i s = .next u ∧ ∀ t, R n u t → R (n + 1) s t) (n : Nat) (s : State) :
    ∃ t, execTimes i n s = some t ∧ R n s t := by
  induction n generalizing s with
  | zero => exact ⟨s, rfl, hzero s⟩
  | succ n ih =>
    obtain ⟨u, hu, hR⟩ := hsucc n s
    obtain ⟨t, ht, hrel⟩ := ih u
    exact ⟨t, by rw [execTimes, hu]; exact ht, hR t hrel⟩

/-- An instruction that turns `A` through Carry restores both in nine. -/
theorem nine_restore_of_shiftA {i : Instr} {f : ShiftFn} {d : Nat} (hf : ∀ m c, RingTurn d (c, m) (f m c))
    (he : ∀ u, exec i u = .next (u.shiftA f)) (s : State) :
    ∃ t, execTimes i 9 s = some t ∧ t.a = s.a ∧ t.p.c = s.p.c := by
  obtain ⟨t, ht, hturn⟩ := execTimes_rel (R := fun n s t => RingTurn (n * d) (s.p.c, s.a) (t.p.c, t.a))
    (fun s => by simpa only [Nat.zero_mul] using RingTurn.refl (s.p.c, s.a))
    (fun n s => ⟨_, he s, fun t h => Nat.succ_mul n d ▸ (hf s.a s.p.c).trans h⟩) 9 s
  obtain ⟨hc, ha⟩ := Prod.mk.inj hturn.eq_of_nine
  exact ⟨t, ht, ha, hc⟩

/-- The modes in which the rotations reach memory (R174, R176). -/
def rotateModes : List AddressingMode := [.zeroPage, .zeroPageX, .absolute, .absoluteX]

/-- These modes read no register but `X`, and no memory (R91, R92, R94, R95). -/
theorem Operand.ea_congr_x {o : Operand} (hm : o.mode ∈ rotateModes) {s t : State} (hx : t.x = s.x) : o.ea t = o.ea s := by
  cases o
  case zeroPage | absolute => rfl
  case zeroPageX | absoluteX => simp only [Operand.ea, hx]
  all_goals simp [Operand.mode, rotateModes] at hm

/-- A shift of the byte at the operand's address, then the loop's advance (R240). -/
def shiftOperand (f : ShiftFn) (o : Operand) (s : State) : State :=
  { s.shiftMem f (o.ea s) with pc := s.pc + o.size }

theorem shiftOperand_read (f : ShiftFn) (o : Operand) (s : State) (k : Addr) :
    (shiftOperand f o s).read k = if k = o.ea s then (f (s.read (o.ea s)) s.p.c).2 else s.read k :=
  Memory.read_write _ _ _ _

/-- The shift does not move the address that it works on. -/
theorem shiftOperand_ea {o : Operand} (hm : o.mode ∈ rotateModes) (f : ShiftFn) (s : State) :
    o.ea (shiftOperand f o s) = o.ea s := Operand.ea_congr_x hm rfl

/-- Carry and the byte at the operand's address. -/
def carryAndByte (o : Operand) (s : State) : Bool × Byte := (s.p.c, s.read (o.ea s))

theorem carryAndByte_shiftOperand {o : Operand} (hm : o.mode ∈ rotateModes) (f : ShiftFn) (s : State) :
    carryAndByte o (shiftOperand f o s) = f (s.read (o.ea s)) s.p.c := by
  rw [carryAndByte, shiftOperand_ea hm, shiftOperand_read, if_pos rfl]
  rfl

/-- `t` is `s` after `n` rotations by `d` of the byte at the operand's address: the address is the same, the ring of Carry
and the byte is turned, and every other byte is kept. -/
structure Rotated (o : Operand) (d n : Nat) (s t : State) : Prop where
  ea : o.ea t = o.ea s
  turn : RingTurn (n * d) (carryAndByte o s) (carryAndByte o t)
  kept : ∀ k, k ≠ o.ea s → t.read k = s.read k

theorem Rotated.refl (o : Operand) (d : Nat) (s : State) : Rotated o d 0 s s where
  ea := rfl
  turn := by simpa only [Nat.zero_mul] using RingTurn.refl (carryAndByte o s)
  kept _ _ := rfl

/-- A rotation before `n` rotations. -/
theorem Rotated.of_shiftOperand {o : Operand} {f : ShiftFn} {d n : Nat} {s t : State}
    (hf : ∀ m c, RingTurn d (c, m) (f m c)) (hm : o.mode ∈ rotateModes) (h : Rotated o d n (shiftOperand f o s) t) :
    Rotated o d (n + 1) s t where
  ea := h.ea.trans (shiftOperand_ea hm f s)
  turn := by
    have hfirst : RingTurn d (carryAndByte o s) (carryAndByte o (shiftOperand f o s)) := by
      rw [carryAndByte_shiftOperand hm]
      exact hf _ _
    rw [Nat.succ_mul]
    exact hfirst.trans h.turn
  kept k hk := by rw [h.kept k (by rwa [shiftOperand_ea hm]), shiftOperand_read, if_neg hk]

/-- Nine rotations restore Carry and all of memory. -/
theorem Rotated.nine {o : Operand} {d : Nat} {s t : State} (h : Rotated o d 9 s t) :
    t.p.c = s.p.c ∧ ∀ k, t.read k = s.read k := by
  obtain ⟨hc, hbyte⟩ := Prod.mk.inj h.turn.eq_of_nine
  refine ⟨hc, fun k => ?_⟩
  by_cases hk : k = o.ea s
  · rw [hk, ← hbyte, h.ea]
  · exact h.kept k hk

/-- An instruction that turns a memory byte through Carry restores Carry and all of memory in nine. -/
theorem nine_restore_of_shiftOperand {i : Instr} {o : Operand} {f : ShiftFn} {d : Nat}
    (hf : ∀ m c, RingTurn d (c, m) (f m c)) (hm : o.mode ∈ rotateModes)
    (he : ∀ u, exec i u = .next (shiftOperand f o u)) (s : State) :
    ∃ t, execTimes i 9 s = some t ∧ t.p.c = s.p.c ∧ ∀ k, t.read k = s.read k := by
  obtain ⟨t, ht, hrot⟩ := execTimes_rel (R := Rotated o d) (Rotated.refl o d)
    (fun _ s => ⟨_, he s, fun _ => Rotated.of_shiftOperand hf hm⟩) 9 s
  exact ⟨t, ht, hrot.nine⟩

/-- A row of ROL turns the byte at its address left through Carry. -/
theorem exec_rolRow {b1 : Byte} {w : Addr} {row : Byte × Instr × Operand} (h : row ∈ rolRows b1 w) (s : State) :
    exec row.2.1 s = .next (shiftOperand rotateLeft row.2.2 s) := by
  obtain ⟨hrol, -⟩ := rotatesThroughCarry b1 w
  obtain ⟨-, -, hexec⟩ := hrol row h
  rw [hexec]
  rfl

/-- A row of ROR turns the byte at its address right through Carry. -/
theorem exec_rorRow {b1 : Byte} {w : Addr} {row : Byte × Instr × Operand} (h : row ∈ rorRows b1 w) (s : State) :
    exec row.2.1 s = .next (shiftOperand rotateRight row.2.2 s) := by
  obtain ⟨-, hror, -⟩ := rotatesThroughCarry b1 w
  obtain ⟨-, -, hexec⟩ := hror row h
  rw [hexec, shiftOperand, State.shiftMem_eq, rotateRight_eq]

/-- Settles O35: ROL and ROR turn the ring of Carry and a byte, in `A` or at an address that depends on `X` alone. -/
theorem nineRotatesRestore : Obligations.NineRotatesRestore := by
  refine ⟨fun i hi s => ?_, fun b1 w row hrow s => ?_⟩
  · obtain ⟨-, -, ⟨-, -, hrol⟩, -, -, hror⟩ := rotatesThroughCarry 0 0
    simp only [List.mem_cons, List.not_mem_nil, or_false] at hi
    rcases hi with rfl | rfl
    · exact nine_restore_of_shiftA ringTurn_rotateLeft hrol s
    · exact nine_restore_of_shiftA ringTurn_rotateRight (fun u => by rw [hror, State.shiftA_eq, rotateRight_eq]) s
  · rcases List.mem_append.mp hrow with hrol | hror
    · exact nine_restore_of_shiftOperand ringTurn_rotateLeft (List.mem_map_of_mem (f := fun q => q.2.2.mode) hrol)
        (exec_rolRow hrol) s
    · exact nine_restore_of_shiftOperand ringTurn_rotateRight (List.mem_map_of_mem (f := fun q => q.2.2.mode) hror)
        (exec_rorRow hror) s

end Sys2Proof.Machine
end

section
/-!
SUPPORT. A word on the stack: what `push16` leaves and that `pop16` takes it off again, the cells wrapping inside page 1
(R205 to R208).
-/

namespace Sys2Proof.Machine

@[simp] theorem State.push16_sp (s : State) (w : Addr) : (s.push16 w).sp = s.sp - 2 := by
  rw [State.push16, State.push_sp, State.push_sp]
  bv_omega

/-- `push16` writes two cells and `SP`, and nothing else (R207). -/
theorem State.push16_eq (s : State) (w : Addr) :
    s.push16 w = { s with mem := (s.mem.write (stackAddr s.sp) (hiByte w)).write (stackAddr (s.sp - 1)) (loByte w),
                          sp := s.sp - 2 } := by
  rw [← State.push16_sp s w]
  rfl

theorem State.push16_read_low (s : State) (w : Addr) : (s.push16 w).read (stackAddr (s.sp - 1)) = loByte w := by
  rw [State.push16, State.push_read, State.push_sp, if_pos rfl]

theorem State.push16_read_high (s : State) (w : Addr) : (s.push16 w).read (stackAddr s.sp) = hiByte w := by
  have hne : stackAddr s.sp ≠ stackAddr (s.sp - 1) := by
    rw [ne_eq, stackAddr_inj]
    bv_omega
  rw [State.push16, State.push_read, State.push_sp, if_neg hne, State.push_read, if_pos rfl]

/-- `pop16` reads memory and `SP` alone. -/
theorem State.pop16_setPc (s : State) (k : Addr) : (s.setPc k).pop16 = (s.pop16.1, s.pop16.2.setPc k) := rfl

/-- What `push16` put on the stack `pop16` takes off, and `SP` is back, wherever it stood (R208). -/
theorem State.pop16_push16 (s : State) (w : Addr) : (s.push16 w).pop16 = (w, (s.push16 w).setSP s.sp) := by
  have hlow : (s.push16 w).sp + 1 = s.sp - 1 := by rw [State.push16_sp]; bv_omega
  have hhigh : s.sp - 1 + 1 = s.sp := by bv_omega
  rw [State.pop16_eq, hlow, hhigh, State.push16_read_low, State.push16_read_high, pair_hiByte_loByte]

end Sys2Proof.Machine
end

section
/-!
SUPPORT. Control transfer: BRK, the branches, the jumps, the call and the return (R185 to R198).
-/

namespace Sys2Proof.Machine

theorem exec_jsr (w : Addr) (s : State) : exec (.jsr w) s = .next (handleJsr w s) := rfl

theorem exec_rts (s : State) : exec .rts s = .next (handleRts s) := rfl

/-- JSR then RTS changes memory and `pc` alone: the popped word is the pushed one, and `SP` is back (R197, R198). -/
theorem handleRts_handleJsr (w k : Addr) (s : State) :
    handleRts ((handleJsr w s).setPc k) = { s with mem := (s.push16 (s.pc + 1)).mem, pc := s.pc + 2 } := by
  have hpc : s.pc + 1 + 1 = s.pc + 2 := BitVec.add_assoc _ _ _
  rw [handleRts, handleJsr, State.pop16_setPc, State.pop16_setPc, State.pop16_push16, State.push16_eq, ← hpc]
  rfl

/-- Settles O41: the return pops the word that the call pushed, and goes on one byte behind it. -/
theorem rtsAfterJsrReturnsBehindTheCall : Obligations.RtsAfterJsrReturnsBehindTheCall := by
  intro w s
  have hreturn := (exec_rts _).trans (congrArg Host.Outcome.next (handleRts_handleJsr w (w + 1) s))
  exact ⟨_, _, exec_jsr w s, rfl, hreturn, rfl, rfl, rfl, rfl, rfl, rfl⟩

/-- BRK's byte has a row in both profiles, and it has no operand bytes (R101). -/
theorem exists_lookup_brk (p : Profile) : ∃ r, lookup p 0x00 = some r ∧ ∀ b1 b2, r.instr b1 b2 = .brk := by
  have hcore : p.includes .core = true := by cases p <;> rfl
  exact ⟨_, lookup_of_extended rfl hcore, fun _ _ => rfl⟩

/-- BRK halts and changes nothing else (R185). -/
theorem runsImplied_brk : RunsImplied .core 0x00 .brk fun s => { s with run := .halted } :=
  runsImplied_of_handler (handler := handleBrk) rfl rfl rfl fun _ => rfl

/-- Settles O36: the byte 0x00 is looked up as BRK in every profile, and BRK halts. -/
theorem brkEndsTheRun : Obligations.BrkEndsTheRun := by
  refine ⟨runsImplied_brk, fun s hr => ?_⟩
  intro u hu hop
  obtain ⟨r, hl, hi⟩ := exists_lookup_brk u.cfg.profile
  obtain ⟨-, -, hexec⟩ := runsImplied_brk
  rw [← hop] at hl
  rw [step_of_running_of_hostTurn hr hu, cpuStep_of_row hl, hi, hexec]

/-- The two readings of a signed offset agree: `b` or `b + 0xFF00`, and the signed byte modulo 65536 (R14, R187). -/
theorem sext16_eq_ofInt (b : Byte) : sext16 b = BitVec.ofInt 16 b.toInt := by
  have hb := b.isLt
  apply BitVec.eq_of_toNat_eq
  rw [BitVec.toNat_ofInt, BitVec.toInt_eq_toNat_cond, sext16]
  by_cases h : b.toNat < 128
  · rw [if_pos h, if_pos (by omega), zext16_toNat]
    omega
  · have hff : (0xFF00 : Addr).toNat = 65280 := rfl
    rw [if_neg h, if_neg (by omega), BitVec.toNat_add, zext16_toNat, hff]
    omega

/-- A branch writes `pc` alone (R186, R187). -/
theorem branchIf_eq (cond : Bool) (b1 : Byte) (s : State) :
    branchIf cond b1 s = .next { s with pc := if cond then s.pc + 1 + BitVec.ofInt 16 b1.toInt else s.pc + 1 } := by
  rw [branchIf, branchTarget, sext16_eq_ofInt]
  cases cond <;> rfl

/-- A branch row is its byte, its profile and the flag test it hands to `branchIf`. -/
theorem branchRuns_of_branchIf {code : Byte} {i : Byte → Instr} {taken : State → Bool}
    (hbytes : ∀ b1, encode (i b1) = [code, b1]) (hprofile : ∀ b1, (i b1).profile = .extended)
    (hexec : ∀ b1 s, exec (i b1) s = branchIf (taken s) b1 s) : BranchRuns code i taken :=
  fun b1 => ⟨hbytes b1, hprofile b1, fun s => (hexec b1 s).trans (branchIf_eq (taken s) b1 s)⟩

/-- Settles O37: each row runs `branchIf` on its flag. -/
theorem branchesGoToTheSignedOffset : Obligations.BranchesGoToTheSignedOffset := by
  refine ⟨?_, ?_, ?_, ?_, ?_, ?_, ?_, ?_⟩
  all_goals exact branchRuns_of_branchIf (fun _ => rfl) (fun _ => rfl) (fun _ _ => rfl)

/-- Settles O38: the two handlers set `pc`, JMP indirect to `jmpIndTarget`. -/
theorem jumpsGoToTheirTarget : Obligations.JumpsGoToTheirTarget :=
  ⟨fun _ => ⟨rfl, rfl, fun _ => rfl⟩, fun _ => ⟨rfl, rfl, fun _ => rfl⟩⟩

/-- JSR writes two stack cells, `SP` and `pc` (R197). -/
theorem handleJsr_eq (w : Addr) (s : State) :
    handleJsr w s = { s with
      mem := (s.mem.write (stackAddr s.sp) (hiByte (s.pc + 1))).write (stackAddr (s.sp - 1)) (loByte (s.pc + 1))
      sp := s.sp - 2
      pc := w } := by
  rw [handleJsr, State.push16_eq]
  rfl

/-- Settles O39: the call pushes the word `pc + 1` and sets `pc`. -/
theorem jsrPushesItsLastByteAddress : Obligations.JsrPushesItsLastByteAddress :=
  fun w => ⟨rfl, rfl, fun s => by rw [exec_jsr, handleJsr_eq]; rfl⟩

/-- RTS writes `SP` and `pc` alone (R198). -/
theorem handleRts_eq (s : State) :
    handleRts s = { s with
      sp := s.sp + 2
      pc := pair (s.read (stackAddr (s.sp + 2))) (s.read (stackAddr (s.sp + 1))) + 1 } := by
  have hsp : s.sp + 1 + 1 = s.sp + 2 := BitVec.add_assoc _ _ _
  rw [handleRts, State.pop16_eq, hsp]
  rfl

/-- Settles O40: the return pops a word and sets `pc` behind it. -/
theorem rtsReturnsToThePoppedWord : Obligations.RtsReturnsToThePoppedWord :=
  ⟨rfl, rfl, fun s => by rw [exec_rts, handleRts_eq]; rfl⟩

end Sys2Proof.Machine
end

section
/-!
SUPPORT. Straight-line execution under `CORE`: no instruction of the profile transfers control (R184, R199).
-/

namespace Sys2Proof.Machine

/-- A `CORE` instruction leaves `pc` behind its operand bytes: the loop's second advance is never skipped (R184, R240). -/
theorem exec_pc_of_core {i : Instr} (h : i.profile = .core) (s : State) :
    ∃ t, exec i s = .next t ∧ t.pc = s.pc + BitVec.ofNat 16 (encode i).tail.length := by
  cases i
  case andImm | andZp | andZpX | andAbs | andAbsX | andAbsY | andIndX | andIndY | oraImm | oraZp | oraZpX | oraAbs
      | oraAbsX | oraAbsY | oraIndX | oraIndY | eorImm | eorZp | eorZpX | eorAbs | eorAbsX | eorAbsY | eorIndX
      | eorIndY =>
    exact ⟨_, rfl, congrArg (· + _) (State.load_pc s _ _)⟩
  case ldaImm | ldaZp | ldaZpX | ldaAbs | ldaAbsX | ldaAbsY | ldaIndX | ldaIndY | ldxImm | ldxZp | ldxZpY | ldxAbs
      | ldxAbsY | ldyImm | ldyZp | ldyZpX | ldyAbs | ldyAbsX | staZp | staZpX | staAbs | staAbsX | staAbsY | staIndX
      | staIndY | adcImm | adcZp | adcZpX | adcAbs | adcAbsX | adcAbsY | adcIndX | adcIndY | sbcImm | sbcZp | sbcZpX
      | sbcAbs | sbcAbsX | sbcAbsY | sbcIndX | sbcIndY | aslZp | aslZpX | aslAbs | aslAbsX | inx | iny | tax | brk =>
    exact ⟨_, rfl, rfl⟩
  all_goals cases h

/-- What `CORE` looks up builds a `CORE` instruction. -/
theorem profile_instr_of_lookup_core {c : Byte} {r : OpCode} (h : lookup .core c = some r) (b1 b2 : Byte) :
    (r.instr b1 b2).profile = .core := by
  have hp := lookup_profile h
  rw [← profile_instr (lookup_mem h) b1 b2] at hp
  cases hq : (r.instr b1 b2).profile with
  | core => rfl
  | extended => rw [hq] at hp; cases hp

/-- A row's instruction has at most two operand bytes (R80 to R83). -/
theorem length_tail_encode_instr_le {r : OpCode} (h : r ∈ opcodeTable) (b1 b2 : Byte) :
    (encode (r.instr b1 b2)).tail.length ≤ 2 := by
  rw [encode_instr h]
  exact List.length_take_le' _ _

/-- The CPU's stages under `CORE` move `pc` over the opcode byte and at most two operand bytes, faulting or not (R240). -/
theorem cpuStep_pc_of_core {s t : State} (hc : s.cfg.profile = .core) (h : cpuStep s = .next t) :
    ∃ n ≤ 2, t.pc = s.pc + 1 + BitVec.ofNat 16 n := by
  rcases cpuStep_cases s with ⟨-, hs⟩ | ⟨r, hl, hs⟩
  · rw [hs] at h
    cases h
    exact ⟨0, by omega, (BitVec.add_zero _).symm⟩
  · rw [hc] at hl
    obtain ⟨u, hu, hpc⟩ := exec_pc_of_core (profile_instr_of_lookup_core hl (s.read (s.pc + 1)) (s.read (s.pc + 1 + 1)))
      (s.setPc (s.pc + 1))
    rw [hs, hu] at h
    cases h
    exact ⟨_, length_tail_encode_instr_le (lookup_mem hl) _ _, hpc⟩

/-- Settles O57: the host leaves `pc`, and if it lets the step go on, the CPU's stages move `pc` by one to three. -/
theorem coreProgramsAreStraightLine : Obligations.CoreProgramsAreStraightLine := by
  intro s t hc hr h hrun
  rw [step_of_running hr] at h
  rcases fullStep_cases s with ⟨hf, hend⟩ | ⟨hf, -⟩ <;> rw [hf] at h
  · cases h
    exact absurd hrun hend
  · obtain ⟨n, hn, hpc⟩ := cpuStep_pc_of_core (by rw [hostTurn_cfg, hc]) h
    rw [hostTurn_pc, BitVec.add_assoc] at hpc
    have hcount : n = 0 ∨ n = 1 ∨ n = 2 := by omega
    rcases hcount with rfl | rfl | rfl
    · exact .inl hpc
    · exact .inr (.inl hpc)
    · exact .inr (.inr hpc)

end Sys2Proof.Machine
end

section
/-!
SUPPORT. The stack page as a whole and the stack's instructions: what many pushes leave and that as many pops take it off
again in reverse, up to the 256 bytes of the page (R205 to R212).
-/

namespace Sys2Proof.Machine

/-- Settles O42: `push` and `pop` are one cell and `SP`, and the words are two of each. -/
theorem stackPrimitives : Obligations.StackPrimitives :=
  fun s v _ => ⟨State.push_eq s v, State.pop_eq s, rfl, rfl⟩

/-- Settles O44: `pop16` after `push16` returns the word and restores `SP`, and the two cells hold its bytes. -/
theorem popWordReturnsPushedWord : Obligations.PopWordReturnsPushedWord := fun s w =>
  ⟨congrArg Prod.fst (State.pop16_push16 s w), congrArg Prod.snd (State.pop16_push16 s w), State.push16_read_high s w,
    State.push16_read_low s w⟩

/-- `n` pushes write the `n` cells from `SP` down, round the page; a cell as far below `SP` as that keeps its byte (R205). -/
theorem pushAll_read_stackAddr {bs : List Byte} {s : State} {c : Byte} (h : bs.length ≤ (s.sp - c).toNat) :
    (pushAll bs s).read (stackAddr c) = s.read (stackAddr c) := by
  induction bs generalizing s with
  | nil => rfl
  | cons b bs ih =>
    rw [List.length_cons] at h
    have hbelow : bs.length ≤ ((s.push b).sp - c).toNat := by rw [State.push_sp]; bv_omega
    have hne : stackAddr c ≠ stackAddr s.sp := by rw [ne_eq, stackAddr_inj]; rintro rfl; bv_omega
    rw [pushAll, ih hbelow, State.push_read, if_neg hne]

/-- Setting `SP` before a pop moves the pop, and the `SP` that was set is overwritten (R206). -/
theorem State.pop_setSP (s : State) (v : Byte) :
    (s.setSP v).pop = (s.read (stackAddr (v + 1)), s.setSP (v + 1)) := rfl

/-- The last of `n + 1` pops is the pop after `n` of them. -/
theorem popMany_succ_eq_append (n : Nat) (s : State) :
    popMany (n + 1) s = ((popMany n s).1 ++ [(popMany n s).2.pop.1], (popMany n s).2.pop.2) := by
  induction n generalizing s with
  | zero => rfl
  | succ n ih => rw [popMany, ih, popMany, List.cons_append]

/-- As many pops as pushes take the bytes off in reverse and put `SP` back: the byte pushed first is popped last, and no
later push has reached its cell, as the page has 256 (R206). -/
theorem popMany_pushAll {bs : List Byte} (h : bs.length ≤ 256) (s : State) :
    popMany bs.length (pushAll bs s) = (bs.reverse, (pushAll bs s).setSP s.sp) := by
  induction bs generalizing s with
  | nil => rfl
  | cons b bs ih =>
    rw [List.length_cons] at h
    have hsp : (s.push b).sp + 1 = s.sp := by rw [State.push_sp]; bv_omega
    have hfar : bs.length ≤ ((s.push b).sp - s.sp).toNat := by rw [State.push_sp]; bv_omega
    have hbottom : (pushAll bs (s.push b)).read (stackAddr s.sp) = b := by
      rw [pushAll_read_stackAddr hfar, State.push_read, if_pos rfl]
    rw [List.length_cons, pushAll, popMany_succ_eq_append, ih (by omega), State.pop_setSP, hsp, hbottom, List.reverse_cons]

/-- Settles O43: what the pops return and the state they leave are the two parts of `popMany_pushAll`. -/
theorem popsReturnPushesInReverse : Obligations.PopsReturnPushesInReverse := fun _ s h =>
  ⟨congrArg Prod.fst (popMany_pushAll h s), congrArg Prod.snd (popMany_pushAll h s)⟩

/-- Settles O45: PHA is a push and PLA a pop and a load; TXS is no load, so it alone writes no flag, and TSX is one. -/
theorem stackInstructions : Obligations.StackInstructions :=
  ⟨runsImplied_of_handler (handler := handlePha) rfl rfl rfl (fun s => State.push_eq s s.a),
    runsImplied_of_handler (handler := handlePla) rfl rfl rfl (fun s => State.load_a (s.setSP (s.sp + 1)) _),
    runsImplied_of_handler (handler := handleTxs) rfl rfl rfl (fun _ => rfl),
    runsImplied_of_handler (handler := handleTsx) rfl rfl rfl (fun s => State.load_x s s.sp)⟩

end Sys2Proof.Machine
end

section
/-!
SUPPORT. Register transfers: the destination register is loaded with the source register's byte (R220 to R223).
-/

namespace Sys2Proof.Machine

/-- Settles O46: each row runs its handler, which loads one register with another's byte, so Zero and Negative follow it. -/
theorem transfersCopyAndSetFlags : Obligations.TransfersCopyAndSetFlags :=
  ⟨runsImplied_of_handler (handler := handleTax) rfl rfl rfl (fun s => State.load_x s s.a),
    runsImplied_of_handler (handler := handleTay) rfl rfl rfl (fun s => State.load_y s s.a),
    runsImplied_of_handler (handler := handleTxa) rfl rfl rfl (fun s => State.load_a s s.x),
    runsImplied_of_handler (handler := handleTya) rfl rfl rfl (fun s => State.load_a s s.y)⟩

end Sys2Proof.Machine
end

section
/-!
SUPPORT. Flag instructions and NOP, the raise of a fault, and `reset()` (R230 to R233, R243, R272).
-/

namespace Sys2Proof.Machine

/-- Settles O47: CLC, SEC and CLV are one flag write each, and NOP's handler is the identity. -/
theorem flagInstructionsAndNop : Obligations.FlagInstructionsAndNop :=
  ⟨runsImplied_of_handler (handler := handleClc) rfl rfl rfl (fun _ => rfl),
    runsImplied_of_handler (handler := handleSec) rfl rfl rfl (fun _ => rfl),
    runsImplied_of_handler (handler := handleClv) rfl rfl rfl (fun _ => rfl),
    runsImplied_of_handler (handler := handleNop) rfl rfl rfl (fun _ => rfl)⟩

/-- Settles O20: a raise is `setRun`, so putting the old run state back gives the state before it. -/
theorem raiseChangesOnlyTheRunState : Obligations.RaiseChangesOnlyTheRunState :=
  fun s f => ⟨State.setRun_run s (.faulted f), rfl⟩

/-- Settles O10: reset() assigns the registers, SP, the flags and `pc`, and has no other assignment. -/
theorem resetOperation : Obligations.ResetOperation :=
  fun _ => ⟨rfl, rfl, rfl, rfl, rfl, rfl, fun _ => rfl, rfl⟩

/-- Settles O11: the fresh memory's vector is 0x0000, and the flags of a status byte show that byte again. -/
theorem resetStateIsAConstructedMachineReset : Obligations.ResetStateIsAConstructedMachineReset :=
  ⟨rfl, rfl, Flags.toByte_ofByte 0x24, rfl, rfl⟩

end Sys2Proof.Machine
end

section
/-!
SUPPORT. `load_and_run`, and the host's move before a step: what it leaves, and that every choice of bytes for `HOST_WRITES`
is a move (R258, R273).
-/

namespace Sys2Proof.Machine

/-- `load_and_run` is the load, and on what it leaves the vector, the reset and the start (R273). -/
theorem loadAndRun_of_loadProgram {base : Addr} {prog : List Byte} {s t : State} (h : loadProgram base prog s = .ok t) :
    loadAndRun base prog s = .ok (startRun (hostReset (setVector base t))) := by
  rw [loadAndRun, h]; rfl

theorem loadAndRun_of_too_large {base : Addr} {prog : List Byte} (s : State) (h : base.toNat + prog.length > 65536) :
    loadAndRun base prog s = .error (.programTooLarge base prog.length) := by
  rw [loadAndRun, loadProgram_of_too_large s h]; rfl

/-- Settles O16: the vector is written over the loaded program, and the reset reads it back into `pc`. -/
theorem loadAndRunBeginsAtTheBase : Obligations.LoadAndRunBeginsAtTheBase := by
  intro base prog s
  obtain ⟨-, hload⟩ := loadProgramCopiesOrRefuses base prog s
  refine ⟨loadAndRun_of_too_large s, fun hfit => ?_⟩
  obtain ⟨t, ht, hframe, hcopied, hkept⟩ := hload hfit
  have hcfg : t.cfg = s.cfg := by simpa using congrArg State.cfg hframe
  have hother : ∀ k : Addr, k ≠ 0xFFFC → k ≠ 0xFFFD → (setVector base t).read k = t.read k :=
    fun _ hlow hhigh => t.mem.read_writeWord_ne base hlow hhigh
  exact ⟨_, loadAndRun_of_loadProgram ht, t.mem.readWord_writeWord 0xFFFC base, rfl, rfl, rfl, rfl,
    congrArg (fun c : Config => Flags.ofByte c.statusReset) hcfg, rfl, t.mem.read_writeWord_low 0xFFFC base,
    t.mem.read_writeWord_high 0xFFFC base, fun i v hi hlow hhigh => (hother _ hlow hhigh).trans (hcopied i v hi),
    fun k hk hlow hhigh => (hother k hlow hhigh).trans (hkept k hk)⟩

/-- Writes of `v`'s bytes at addresses of `HOST_WRITES` leave those bytes there, and every other byte as it was (R258). -/
theorem hostWrite_map_read {s : State} {ks : List Addr} (h : ∀ k ∈ ks, k ∈ s.cfg.hostWrites) (v : Addr → Byte)
    (k : Addr) : (hostWrite s (ks.map fun j => (j, v j))).read k = if k ∈ ks then v k else s.read k := by
  induction ks generalizing s with
  | nil => rfl
  | cons j js ih =>
    obtain ⟨hj, hjs⟩ := List.forall_mem_cons.mp h
    rw [List.map_cons, hostWrite, if_pos (List.contains_iff_mem.mpr hj), ih (s := s.write j (v j)) hjs, State.write_read]
    by_cases hk : k = j <;> simp [hk]

/-- With the move `m` first in the queue, the host's turn is that move (R258). -/
theorem hostTurn_cons {s : State} (h : s.cfg.host = .hook) (m : HostMove) (rest : List HostMove) :
    hostTurn { s with hostMoves := m :: rest } = makeMove m { s with hostMoves := m :: rest } := hostTurn_hook h

/-- When the queue is used up, the host makes the free move as if it had been given (U18). -/
theorem hostTurn_of_used_up {s : State} (hh : s.cfg.host = .hook) (h : s.hostMoves = []) :
    hostTurn s = hostTurn { s with hostMoves := [Config.hostMove s.hostTurns s] } := by
  have hnext : nextMove s = Config.hostMove s.hostTurns s := by rw [nextMove, h]
  rw [hostTurn_cons hh, hostTurn_hook hh, hnext, makeMove, makeMove, h]
  rfl

/-- When the host's turn ends the run, the step ends there (R240, R245). -/
theorem fullStep_of_hostTurn_ended {s : State} (h : (hostTurn s).run ≠ .running) : fullStep s = .next (hostTurn s) := by
  rcases fullStep_cases s with ⟨hf, -⟩ | ⟨-, hr⟩
  · exact hf
  · exact absurd hr h

/-- Settles O55: the frame of the host's turn, and with `HOST = hook` what the first move of the queue does. -/
theorem hostMovesOnlyWhereAllowed : Obligations.HostMovesOnlyWhereAllowed := by
  intro s
  refine ⟨hostTurn_none, by rw [hostTurn_eq], fun k hk => hostTurn_read (.inr hk), fun hh => ⟨fun m rest => ?_,
    fun v halt => ⟨⟨s.cfg.hostWrites.map fun k => (k, v k), halt⟩, rfl, fun rest k hk => ?_⟩, hostTurn_of_used_up hh⟩⟩
  · have hturn := (hostTurn_cons hh m rest).trans (makeMove_eq m _)
    refine ⟨by rw [hturn]; rfl, by rw [hturn], by rw [hturn], fun hm => fullStep_of_hostTurn_ended ?_⟩
    rw [hturn, hm]
    nofun
  · rw [hostTurn_cons hh, makeMove_eq]
    exact (hostWrite_map_read (fun _ => id) v k).trans (if_pos hk)

end Sys2Proof.Machine
end

section
/-!
SUPPORT. The step as the decoder sees it, and the run state it leaves (R240 to R245, R275, R277).
-/

namespace Sys2Proof.Machine

/-- A step from `idle` is the step of the machine it starts (R275, Log 6). -/
theorem step_eq_step_running {s : State} (h : s.run = .running ∨ s.run = .idle) :
    step s = step { s with run := .running } := by
  rcases h with h | h
  · rw [← h]
  · exact (step_of_idle h).trans (step_of_running rfl).symm

/-- The three bytes that a step fetches decode to the instruction of the opcode byte's row (R85). -/
theorem exists_lookup_of_decode {p : Profile} {c b1 b2 : Byte} {i : Instr} {rest : List Byte}
    (h : decode p [c, b1, b2] = .ok (i, rest)) : ∃ r, lookup p c = some r ∧ r.instr b1 b2 = i := by
  cases hl : lookup p c with
  | none => rw [decode, hl] at h; cases h
  | some r =>
    obtain rfl := lookup_code hl
    have hrow := decode_row hl b1 b2 ([b1, b2].drop r.operandLength)
    rw [List.take_append_drop, h] at hrow
    cases hrow
    exact ⟨r, rfl, rfl⟩

/-- Settles O51: the decoded instruction is the one that the opcode byte's row builds from the two bytes after it. -/
theorem stepRunsTheDecodedInstruction : Obligations.StepRunsTheDecodedInstruction := by
  intro s hr u
  rw [step_eq_step_running hr]
  refine ⟨fun hh => hostTurn_none (s := { s with run := .running }) hh,
    fun hu => (step_of_running rfl).trans (fullStep_of_hostTurn_ended hu), fun i rest hu hd => ?_⟩
  obtain ⟨r, hl, rfl⟩ := exists_lookup_of_decode hd
  rw [step_of_running_of_hostTurn rfl hu, cpuStep_of_row hl]

/-- Settles O52: the CPU's stages record the fault of the absent byte, and a faulted machine answers its fault. -/
theorem unrecognizedOpcodeFaultsAfterTheAdvance : Obligations.UnrecognizedOpcodeFaultsAfterTheAdvance := by
  intro s hr u hu hl
  exact ⟨(step_of_running_of_hostTurn hr hu).trans (cpuStep_of_absent hl), step_of_faulted rfl⟩

theorem branchIf_run (cond : Bool) (b1 : Byte) (s : State) : ∃ t, branchIf cond b1 s = .next t ∧ t.run = s.run := by
  refine ⟨_, rfl, ?_⟩
  split <;> rfl

/-- BRK alone ends the run: every other instruction leaves the run state (R244, R245). -/
theorem exec_run_of_ne_brk {i : Instr} (h : i ≠ .brk) (s : State) : ∃ t, exec i s = .next t ∧ t.run = s.run := by
  cases i
  case brk => exact absurd rfl h
  case andImm | andZp | andZpX | andAbs | andAbsX | andAbsY | andIndX | andIndY | oraImm | oraZp | oraZpX | oraAbs
      | oraAbsX | oraAbsY | oraIndX | oraIndY | eorImm | eorZp | eorZpX | eorAbs | eorAbsX | eorAbsY | eorIndX
      | eorIndY =>
    exact ⟨_, rfl, State.load_run _ _ _⟩
  case bpl | bmi | bvc | bvs | bcc | bcs | bne | beq => exact branchIf_run _ _ _
  all_goals exact ⟨_, rfl, rfl⟩

/-- A row builds BRK only if its byte is 0x00 (R101). -/
theorem code_of_instr_eq_brk {r : OpCode} (hr : r ∈ opcodeTable) {b1 b2 : Byte} (h : r.instr b1 b2 = .brk) :
    r.code = 0x00 := by
  have he := encode_instr hr b1 b2
  rw [h] at he
  exact (List.cons.inj he).1.symm

/-- What the CPU's stages leave of a running machine, by the byte at `pc`: absent, 0x00, or another byte with a row. -/
theorem cpuStep_run_cases {u : State} (hu : u.run = .running) : ∃ t, cpuStep u = .next t ∧
    ((lookup u.cfg.profile (u.read u.pc) = none ∧ u.read u.pc ≠ 0x00 ∧
        t.run = .faulted (.unrecognizedOpcode (u.read u.pc))) ∨
      (lookup u.cfg.profile (u.read u.pc) ≠ none ∧ u.read u.pc = 0x00 ∧ t.run = .halted) ∨
      (lookup u.cfg.profile (u.read u.pc) ≠ none ∧ u.read u.pc ≠ 0x00 ∧ t.run = .running)) := by
  obtain ⟨q, hq, hbrk⟩ := exists_lookup_brk u.cfg.profile
  cases hl : lookup u.cfg.profile (u.read u.pc) with
  | none =>
    have hne : u.read u.pc ≠ 0x00 := fun h0 => by rw [h0, hq] at hl; cases hl
    exact ⟨_, cpuStep_of_absent hl, .inl ⟨rfl, hne, rfl⟩⟩
  | some r =>
    rw [cpuStep_of_row hl]
    by_cases h0 : u.read u.pc = 0x00
    · obtain rfl : q = r := by rw [h0, hq] at hl; exact Option.some.inj hl
      obtain ⟨-, -, hexec⟩ := runsImplied_brk
      rw [hbrk, hexec]
      exact ⟨_, rfl, .inr (.inl ⟨nofun, h0, rfl⟩)⟩
    · have hne : r.instr (u.read (u.pc + 1)) (u.read (u.pc + 2)) ≠ .brk := fun hi =>
        h0 ((lookup_code hl).symm.trans (code_of_instr_eq_brk (lookup_mem hl) hi))
      obtain ⟨t, ht, hrun⟩ := exec_run_of_ne_brk hne { u with pc := u.pc + 1 }
      exact ⟨t, ht, .inr (.inr ⟨nofun, h0, hrun.trans hu⟩)⟩

/-- Settles O53: the host's turn halts the machine or leaves it running, and then the byte at `pc` decides. -/
theorem runStateAfterAStep : Obligations.RunStateAfterAStep := by
  intro s hr
  rcases hostTurn_run s with hu | hu
  · rw [hr] at hu
    obtain ⟨t, ht, hcases⟩ := cpuStep_run_cases hu
    refine ⟨t, (step_of_running_of_hostTurn hr hu).trans ht, ?_⟩
    generalize hostTurn s = u at hu hcases
    rcases hcases with ⟨hl, h0, hrun⟩ | ⟨hl, h0, hrun⟩ | ⟨hl, h0, hrun⟩
    · simp_all [eq_comm (a := Fault.unrecognizedOpcode _)]
    all_goals simp_all
  · have hend : (hostTurn s).run ≠ .running := by simp [hu]
    exact ⟨_, (step_of_running hr).trans (fullStep_of_hostTurn_ended hend), by simp [hu]⟩

end Sys2Proof.Machine
end
